-- ==== Sys2Proof/Word.lean ====
section
/-! DEFINITION. The word types of the part's ports and clock, and the plain containers that hold a fixed number
of like things: three districts, four curve classes, six curve points, eight units, four ports. -/

namespace Sys2Proof

/-- One byte of a frame or of an answer. -/
abbrev Byte := BitVec 8

/-- A station second: the station clock counts 0 to 4,294,967,295 and wraps (R3). -/
abbrev Second := BitVec 32

/-- Units U0 to U7. -/
abbrev UnitId := Fin 8

/-- District d, which owns bay Bd and district port d. -/
abbrev District := Fin 3

/-- Curve classes C0 to C3. -/
abbrev ClassId := Fin 4

/-- The four serial target ports (R160). -/
inductive PortId where
  | district (d : District)
  | river
deriving DecidableEq, Repr

/-- Three like things, one per district or per bay. -/
structure Tri (α : Type) where
  a0 : α
  a1 : α
  a2 : α
deriving DecidableEq, Repr

/-- Four like things, one per curve class. -/
structure Quad (α : Type) where
  a0 : α
  a1 : α
  a2 : α
  a3 : α
deriving DecidableEq, Repr

/-- Six like things, one per curve point. -/
structure Six (α : Type) where
  a0 : α
  a1 : α
  a2 : α
  a3 : α
  a4 : α
  a5 : α
deriving DecidableEq, Repr

/-- Eight like things, one per unit. -/
structure Oct (α : Type) where
  a0 : α
  a1 : α
  a2 : α
  a3 : α
  a4 : α
  a5 : α
  a6 : α
  a7 : α
deriving DecidableEq, Repr

/-- Four like things, one per port. -/
structure Ports (α : Type) where
  districts : Tri α
  river     : α
deriving DecidableEq, Repr

def Tri.get {α : Type} (t : Tri α) : Fin 3 → α
  | 0 => t.a0
  | 1 => t.a1
  | 2 => t.a2

def Tri.set {α : Type} (t : Tri α) (i : Fin 3) (x : α) : Tri α :=
  match i with
  | 0 => { t with a0 := x }
  | 1 => { t with a1 := x }
  | 2 => { t with a2 := x }

def Tri.ofFn {α : Type} (f : Fin 3 → α) : Tri α := ⟨f 0, f 1, f 2⟩

def Quad.get {α : Type} (t : Quad α) : Fin 4 → α
  | 0 => t.a0
  | 1 => t.a1
  | 2 => t.a2
  | 3 => t.a3

def Quad.set {α : Type} (t : Quad α) (i : Fin 4) (x : α) : Quad α :=
  match i with
  | 0 => { t with a0 := x }
  | 1 => { t with a1 := x }
  | 2 => { t with a2 := x }
  | 3 => { t with a3 := x }

def Six.map {α β : Type} (f : α → β) (t : Six α) : Six β := ⟨f t.a0, f t.a1, f t.a2, f t.a3, f t.a4, f t.a5⟩

def Six.toList {α : Type} (t : Six α) : List α := [t.a0, t.a1, t.a2, t.a3, t.a4, t.a5]

def Tri.map {α β : Type} (f : α → β) (t : Tri α) : Tri β := ⟨f t.a0, f t.a1, f t.a2⟩

def Tri.toList {α : Type} (t : Tri α) : List α := [t.a0, t.a1, t.a2]

def Quad.toList {α : Type} (t : Quad α) : List α := [t.a0, t.a1, t.a2, t.a3]

def Oct.get {α : Type} (t : Oct α) : Fin 8 → α
  | 0 => t.a0
  | 1 => t.a1
  | 2 => t.a2
  | 3 => t.a3
  | 4 => t.a4
  | 5 => t.a5
  | 6 => t.a6
  | 7 => t.a7

def Oct.set {α : Type} (t : Oct α) (i : Fin 8) (x : α) : Oct α :=
  match i with
  | 0 => { t with a0 := x }
  | 1 => { t with a1 := x }
  | 2 => { t with a2 := x }
  | 3 => { t with a3 := x }
  | 4 => { t with a4 := x }
  | 5 => { t with a5 := x }
  | 6 => { t with a6 := x }
  | 7 => { t with a7 := x }

def Oct.ofFn {α : Type} (f : Fin 8 → α) : Oct α := ⟨f 0, f 1, f 2, f 3, f 4, f 5, f 6, f 7⟩

def Oct.map {α β : Type} (f : α → β) (t : Oct α) : Oct β :=
  ⟨f t.a0, f t.a1, f t.a2, f t.a3, f t.a4, f t.a5, f t.a6, f t.a7⟩

def Ports.get {α : Type} (t : Ports α) : PortId → α
  | .district d => t.districts.get d
  | .river => t.river

def Ports.set {α : Type} (t : Ports α) (p : PortId) (x : α) : Ports α :=
  match p with
  | .district d => { t with districts := t.districts.set d x }
  | .river => { t with river := x }

def Ports.map {α β : Type} (f : α → β) (t : Ports α) : Ports β := ⟨t.districts.map f, f t.river⟩

/-- The districts in ascending number. -/
def districts : List District := [0, 1, 2]

/-- The units in ascending number. -/
def unitIds : List UnitId := [0, 1, 2, 3, 4, 5, 6, 7]

/-- The curve classes in ascending number. -/
def classIds : List ClassId := [0, 1, 2, 3]

end Sys2Proof
end

