-- ==== Sys2Proof/Config.lean ====
section
/-! DEFINITION. What an implementation fixes and the manual leaves open, as constants without a body. -/

namespace Sys2Proof.Config

/-- Free value (log entry 9): whether the n-th commit end that the queue does not name itself reads the stored image
back equal (R188 gives both outcomes and says nothing of when each comes about). A COMMIT_END that the queue names
carries the outcome as its operand. -/
opaque readBackEqual : Nat → Bool

end Sys2Proof.Config
end

