-- ==== Sys2Proof/Syntax.lean ====
section
/-! DEFINITION. The commands and events of the part: one constructor per row of spec/opcode_table.json. A frame row
carries its port, its argument fields as the frame holds them, and its check byte `chk` (R163), good or not. -/

namespace Sys2Proof

/-- The argument fields of WRITE CURVE (R25), in frame order. -/
structure CurveArgs where
  cls   : Byte
  heads : Six (BitVec 16)
  flows : Six (BitVec 16)
  qMin  : BitVec 16
  power : BitVec 16
deriving DecidableEq, Repr

/-- The argument fields of WRITE UNIT CONFIG (R186), in frame order. -/
structure UnitArgs where
  unit          : Byte
  enable        : Byte
  cls           : Byte
  reach         : Byte
  minRun        : BitVec 16
  minRest       : BitVec 16
  maxStarts     : Byte
  startTimeout  : BitVec 16
  stopTimeout   : BitVec 16
  travelTimeout : BitVec 16
deriving DecidableEq, Repr

/-- The argument fields of WRITE BAY CONFIG (R186), in frame order; floor and float level are signed. -/
structure BayArgs where
  bay        : Byte
  floor      : BitVec 16
  floatLevel : BitVec 16
  floatMode  : Byte
  weight     : Byte
deriving DecidableEq, Repr

/-- The argument fields of WRITE STATION CONFIG (R186), in frame order; the sill is signed. -/
structure StationArgs where
  sill        : BitVec 16
  fallbackCap : BitVec 16
  budgets     : Tri (BitVec 16)
  spacings    : Tri (BitVec 16)
deriving DecidableEq, Repr

/-- The rows of spec/opcode_table.json, in the table's order. -/
inductive Instr where
  -- frames on any port
  | nop (p : PortId) (chk : Byte)
  | readNotices (p : PortId) (chk : Byte)
  | setNoticeMask (p : PortId) (mask : BitVec 16) (chk : Byte)
  | readStation (p : PortId) (chk : Byte)
  | readUnit (p : PortId) (unit : Byte) (chk : Byte)
  | readAllocation (p : PortId) (chk : Byte)
  | snapshot (p : PortId) (units kinds : Byte) (chk : Byte)
  | readSnapshot (p : PortId) (chk : Byte)
  | clearTrip (p : PortId) (unit : Byte) (chk : Byte)
  | readBay (p : PortId) (bay : Byte) (chk : Byte)
  -- frames of the district role
  | reportLevel (p : PortId) (level : BitVec 16) (chk : Byte)
  | postOrder (p : PortId) (tag urgency : Byte) (volume deadline : BitVec 32) (chk : Byte)
  | cancelOrder (p : PortId) (tag : Byte) (chk : Byte)
  | setUrgency (p : PortId) (tag urgency : Byte) (chk : Byte)
  | openQueue (p : PortId) (chk : Byte)
  | closeQueue (p : PortId) (chk : Byte)
  | readQueue (p : PortId) (chk : Byte)
  | readCompletions (p : PortId) (count : Byte) (chk : Byte)
  | ackFloat (p : PortId) (chk : Byte)
  | clearUnordered (p : PortId) (chk : Byte)
  -- frames of the river role
  | setCap (p : PortId) (cap : BitVec 16) (chk : Byte)
  | reportStage (p : PortId) (stage : BitVec 16) (chk : Byte)
  | closeStation (p : PortId) (chk : Byte)
  | liftClosure (p : PortId) (chk : Byte)
  -- frames of the service role, and READ CONFIG
  | writeCurve (p : PortId) (a : CurveArgs) (chk : Byte)
  | writeUnitConfig (p : PortId) (a : UnitArgs) (chk : Byte)
  | writeBayConfig (p : PortId) (a : BayArgs) (chk : Byte)
  | writeStationConfig (p : PortId) (a : StationArgs) (chk : Byte)
  | commitConfig (p : PortId) (chk : Byte)
  | readConfig (p : PortId) (kind index : Byte) (chk : Byte)
  | stationReset (p : PortId) (chk : Byte)
  /-- A two-byte frame whose code is not in the command table (R162, R167). -/
  | unknownCommand (p : PortId) (code : Byte) (chk : Byte)
  -- edges of SEL_n
  | selNFall (p : PortId)
  /-- SEL_n rises after these bytes were received in full, none of them the check byte (R166). -/
  | shortTransaction (p : PortId) (bytes : List Byte)
  /-- SEL_n rises after `n` more bytes were exchanged in full since the frame was taken (R169). -/
  | endOfTransaction (p : PortId) (n : Nat)
  -- resets
  | powerOn
  | resetNFall
  | resetNRise
  -- the second mark and the events taken at it
  | secondMark
  | freshnessFall (b : District)
  | stageFreshnessFall
  | capStatusHeld
  | fallbackEvent
  | profileComesIntoForce
  | runHoldExpiry (u : UnitId)
  | restExpiry (u : UnitId)
  | startTimeoutExpiry (u : UnitId)
  | stopTimeoutExpiry (u : UnitId)
  | travelTimeoutExpiry (u : UnitId)
  | startHistoryAgeing (u : UnitId)
  | deadlineExpiry (d : District)
  /-- The end of a commit; `equal` is what the non-volatile store's read-back shows (R188). -/
  | commitEnd (equal : Bool)
  | evaluation
  -- line changes
  | floatLineRise (b : District)
  | floatLineFall (b : District)
  | availRise (u : UnitId)
  | availFall (u : UnitId)
  | atspeedRise (u : UnitId)
  | atspeedFall (u : UnitId)
  | selposChange (u : UnitId) (pos : Fin 4)
  | pselChange (code : Fin 4)
  | svcChange (high : Bool)
  | selNRiseInIdle (p : PortId)
deriving DecidableEq, Repr

end Sys2Proof
end

