-- ==== Sys2Proof/Decode.lean ====
section
/-! DEFINITION. The command table of section 9.4 (R168, R171): the role and the argument length of every command code;
the frame each frame row sends, byte by byte; and `decodeTableWord`. -/

namespace Sys2Proof

/-- The ports that may send a command, and whether it needs service mode (R168). -/
inductive Role where
  | anyPort
  | district
  | river
  | service
  | serviceRiver
deriving DecidableEq, Repr

/-- The command table of R171: role and number of argument bytes; `none` for a code the table does not hold. -/
def commandRow (code : Byte) : Option (Role × Nat) :=
  match code.toNat with
  | 0x01 => some (.anyPort, 0)
  | 0x03 => some (.anyPort, 0)
  | 0x04 => some (.anyPort, 2)
  | 0x05 => some (.anyPort, 0)
  | 0x06 => some (.anyPort, 1)
  | 0x07 => some (.anyPort, 0)
  | 0x08 => some (.anyPort, 2)
  | 0x09 => some (.anyPort, 0)
  | 0x0A => some (.anyPort, 1)
  | 0x0B => some (.anyPort, 1)
  | 0x20 => some (.district, 2)
  | 0x21 => some (.district, 10)
  | 0x22 => some (.district, 1)
  | 0x23 => some (.district, 2)
  | 0x24 => some (.district, 0)
  | 0x25 => some (.district, 0)
  | 0x26 => some (.district, 0)
  | 0x27 => some (.district, 1)
  | 0x28 => some (.district, 0)
  | 0x29 => some (.district, 0)
  | 0x40 => some (.river, 2)
  | 0x41 => some (.river, 2)
  | 0x42 => some (.river, 0)
  | 0x43 => some (.river, 0)
  | 0x60 => some (.service, 29)
  | 0x61 => some (.service, 15)
  | 0x62 => some (.service, 7)
  | 0x63 => some (.service, 16)
  | 0x64 => some (.service, 0)
  | 0x65 => some (.anyPort, 2)
  | 0x66 => some (.serviceRiver, 0)
  | _ => none

/-- The frame length: command byte, argument bytes and check byte; 2 for a code the table does not hold (R162). -/
def frameLengthOf (code : Byte) : Nat :=
  match commandRow code with
  | some (_, n) => n + 2
  | none => 2

/-- The roles that need the SVC line high and no commit in progress: the four configuration writes, COMMIT CONFIG
and STATION RESET (R167 steps 3 and 4, R168). -/
def Role.needsService : Role → Bool
  | .service => true
  | .serviceRiver => true
  | .anyPort => false
  | .district => false
  | .river => false

/-- Whether the role allows the port (R168). -/
def Role.allows : Role → PortId → Bool
  | .anyPort, _ => true
  | .service, _ => true
  | .district, .district _ => true
  | .district, .river => false
  | .river, .river => true
  | .river, .district _ => false
  | .serviceRiver, .river => true
  | .serviceRiver, .district _ => false

/-- `n` bytes of a number, most significant first (R1). -/
def beBytes : Nat → Nat → List Byte
  | 0, _ => []
  | n + 1, v => BitVec.ofNat 8 (v / 256 ^ n) :: beBytes n v

/-- `n` bytes of a signed number in two's complement, most significant first (R1). -/
def beSigned (n : Nat) (v : Int) : List Byte := beBytes n (v.emod (256 ^ n : Nat)).toNat

/-- A 16-bit field as two bytes. -/
def field16 (v : BitVec 16) : List Byte := beBytes 2 v.toNat

/-- A 32-bit field as four bytes. -/
def field32 (v : BitVec 32) : List Byte := beBytes 4 v.toNat

def CurveArgs.bytes (a : CurveArgs) : List Byte :=
  a.cls :: (a.heads.toList.flatMap field16 ++ a.flows.toList.flatMap field16 ++ field16 a.qMin ++ field16 a.power)

def UnitArgs.bytes (a : UnitArgs) : List Byte :=
  [a.unit, a.enable, a.cls, a.reach] ++ field16 a.minRun ++ field16 a.minRest ++ [a.maxStarts]
    ++ field16 a.startTimeout ++ field16 a.stopTimeout ++ field16 a.travelTimeout

def BayArgs.bytes (a : BayArgs) : List Byte :=
  a.bay :: (field16 a.floor ++ field16 a.floatLevel ++ [a.floatMode, a.weight])

def StationArgs.bytes (a : StationArgs) : List Byte :=
  field16 a.sill ++ field16 a.fallbackCap ++ a.budgets.toList.flatMap field16 ++ a.spacings.toList.flatMap field16

/-- One command frame (R160, R171): the port, the command byte, the argument bytes and the check byte. -/
structure Frame where
  port : PortId
  code : Byte
  args : List Byte
  chk  : Byte
deriving DecidableEq, Repr

/-- Every byte of the frame, in the order the gateway sends them. -/
def Frame.bytes (f : Frame) : List Byte := f.code :: (f.args ++ [f.chk])

/-- The check byte is good: the frame's bytes sum to 90 modulo 256 (R163). -/
def Frame.good (f : Frame) : Bool := f.bytes.foldl (· + ·) (0 : Byte) = 90

/-- The frame that a frame row sends; `none` for the rows that are no frame. -/
def Instr.frame? : Instr → Option Frame
  | .nop p c => some ⟨p, 0x01, [], c⟩
  | .readNotices p c => some ⟨p, 0x03, [], c⟩
  | .setNoticeMask p m c => some ⟨p, 0x04, field16 m, c⟩
  | .readStation p c => some ⟨p, 0x05, [], c⟩
  | .readUnit p u c => some ⟨p, 0x06, [u], c⟩
  | .readAllocation p c => some ⟨p, 0x07, [], c⟩
  | .snapshot p us ks c => some ⟨p, 0x08, [us, ks], c⟩
  | .readSnapshot p c => some ⟨p, 0x09, [], c⟩
  | .clearTrip p u c => some ⟨p, 0x0A, [u], c⟩
  | .readBay p b c => some ⟨p, 0x0B, [b], c⟩
  | .reportLevel p l c => some ⟨p, 0x20, field16 l, c⟩
  | .postOrder p t u v d c => some ⟨p, 0x21, [t, u] ++ field32 v ++ field32 d, c⟩
  | .cancelOrder p t c => some ⟨p, 0x22, [t], c⟩
  | .setUrgency p t u c => some ⟨p, 0x23, [t, u], c⟩
  | .openQueue p c => some ⟨p, 0x24, [], c⟩
  | .closeQueue p c => some ⟨p, 0x25, [], c⟩
  | .readQueue p c => some ⟨p, 0x26, [], c⟩
  | .readCompletions p n c => some ⟨p, 0x27, [n], c⟩
  | .ackFloat p c => some ⟨p, 0x28, [], c⟩
  | .clearUnordered p c => some ⟨p, 0x29, [], c⟩
  | .setCap p v c => some ⟨p, 0x40, field16 v, c⟩
  | .reportStage p v c => some ⟨p, 0x41, field16 v, c⟩
  | .closeStation p c => some ⟨p, 0x42, [], c⟩
  | .liftClosure p c => some ⟨p, 0x43, [], c⟩
  | .writeCurve p a c => some ⟨p, 0x60, a.bytes, c⟩
  | .writeUnitConfig p a c => some ⟨p, 0x61, a.bytes, c⟩
  | .writeBayConfig p a c => some ⟨p, 0x62, a.bytes, c⟩
  | .writeStationConfig p a c => some ⟨p, 0x63, a.bytes, c⟩
  | .commitConfig p c => some ⟨p, 0x64, [], c⟩
  | .readConfig p k i c => some ⟨p, 0x65, [k, i], c⟩
  | .stationReset p c => some ⟨p, 0x66, [], c⟩
  | .unknownCommand p code c => some ⟨p, code, [], c⟩
  | .selNFall _ => none
  | .shortTransaction _ _ => none
  | .endOfTransaction _ _ => none
  | .powerOn => none
  | .resetNFall => none
  | .resetNRise => none
  | .secondMark => none
  | .freshnessFall _ => none
  | .stageFreshnessFall => none
  | .capStatusHeld => none
  | .fallbackEvent => none
  | .profileComesIntoForce => none
  | .runHoldExpiry _ => none
  | .restExpiry _ => none
  | .startTimeoutExpiry _ => none
  | .stopTimeoutExpiry _ => none
  | .travelTimeoutExpiry _ => none
  | .startHistoryAgeing _ => none
  | .deadlineExpiry _ => none
  | .commitEnd _ => none
  | .evaluation => none
  | .floatLineRise _ => none
  | .floatLineFall _ => none
  | .availRise _ => none
  | .availFall _ => none
  | .atspeedRise _ => none
  | .atspeedFall _ => none
  | .selposChange _ _ => none
  | .pselChange _ => none
  | .svcChange _ => none
  | .selNRiseInIdle _ => none

/-- The bytes received in a RECEIVING transaction do not yet hold the check byte (R160, R166). -/
def isShort (bytes : List Byte) : Bool :=
  match bytes with
  | [] => true
  | code :: _ => bytes.length < frameLengthOf code

/-- No row of spec/opcode_table.json gives bits: a command of this part is a frame on a port or an edge of a line, not a
word. So no word spells a command. -/
def decodeTableWord (_nbits _w : Nat) : Option Instr := none

end Sys2Proof
end

