-- ==== Sys2Proof/Machine/State.lean ====
section
/-! DEFINITION. The state of the part, block by block as the spec gives it, the stops of the model, and the state after
a power-on reset. A field marked 'model's own' is bookkeeping the spec's rules need and no register of the part. -/

namespace Sys2Proof.Machine

/-! ### Bays (chapter 1) -/

/-- Freshness of a report (R7). -/
inductive Freshness where
  | fresh
  | stale
  | unknown
deriving DecidableEq, Repr

/-- Float mode of a bay (R4). -/
inductive FloatMode where
  | selfClearing
  | latched
deriving DecidableEq, Repr

/-- The configuration items of a bay (R4). -/
structure BayConfig where
  floor      : Int
  floatLevel : Int
  floatMode  : FloatMode
  weight     : Nat
deriving DecidableEq, Repr

/-- The bay record (R4). Freshness is derived (R7). -/
structure Bay where
  reported    : Option Int
  age         : Nat
  /-- Model's own (log entry 2): this mark's ageing would make freshness fall, and is not taken yet. -/
  ageDue      : Bool
  floatInput  : Bool
  floatDemand : Bool
  lowSuction  : Bool
  levelUsed   : Int
  cfg         : BayConfig
deriving DecidableEq, Repr

/-! ### Curve Table (chapter 2) -/

/-- A curve class record (R24). -/
structure CurveClass where
  heads : Six Nat
  flows : Six Nat
  qMin  : Nat
  power : Nat
deriving DecidableEq, Repr

/-! ### Pump units (chapters 3 and 4) -/

/-- The eight states of a unit (R38). -/
inductive UnitState where
  | offline
  | idle
  | resting
  | switching
  | starting
  | running
  | stopping
  | tripped
deriving DecidableEq, Repr

/-- Trip reasons (R38, R62). -/
inductive TripReason where
  | startTimeout
  | lostRun
  | stopTimeout
  | selector
  | travelTimeout
  | uncommandedRun
deriving DecidableEq, Repr

/-- Stop reasons (R38, R52). -/
inductive StopReason where
  | shedCap
  | shedPower
  | closure
  | head
  | suction
  | noDemand
  | rebalance
deriving DecidableEq, Repr

/-- One timer of a unit (R71). The decrease from 1 to 0 is its expiry, an event of its own (R72): `due` (model's own,
log entry 2) says that the expiry belongs to this mark and is not taken yet, so that `left` still reads 1 (R77). -/
structure Timer where
  left : Nat
  due  : Bool
deriving DecidableEq, Repr

/-- The configuration of a unit (R39). -/
structure UnitConfig where
  enable        : Bool
  cls           : ClassId
  reach         : Tri Bool
  minRun        : Nat
  minRest       : Nat
  maxStarts     : Nat
  startTimeout  : Nat
  stopTimeout   : Nat
  travelTimeout : Nat
deriving DecidableEq, Repr

/-- The unit record (R38) with the line values the Unit Controller holds (R40) and the lines it drives (R41, R42).
`selPos` is SELPOS, 3 meaning between positions; `selCmd` is SELCMD, `none` while a low RESET_n releases it (R189). -/
structure UnitRec where
  state        : UnitState
  tripReason   : Option TripReason
  stopReason   : Option StopReason
  commandedBay : District
  selPos       : Fin 4
  avail        : Bool
  atSpeed      : Bool
  runReq       : Bool
  selCmd       : Option District
  estimate     : Nat
  creditMark   : Second
  runHold      : Timer
  rest         : Timer
  stateTimer   : Timer
  history      : List Second
  cfg          : UnitConfig
  pendingCfg   : Option UnitConfig
  clearedBy    : Option PortId
deriving DecidableEq, Repr

/-! ### Order Queues (chapters 5 and 8) -/

/-- Urgency of an order or of a district's call (R88, R130). -/
inductive Urgency where
  | routine
  | high
  | emergency
deriving DecidableEq, Repr

/-- State of an order in the list (R88, R90). -/
inductive OrderState where
  | queued
  | active
  | suspended
deriving DecidableEq, Repr

/-- A drain order (R88). -/
structure Order where
  tag       : Byte
  urgency   : Urgency
  posted    : Nat
  remaining : Nat
  postedAt  : Second
  deadline  : Option Nat
  state     : OrderState
deriving DecidableEq, Repr

/-- The three ways an order finishes (R94). -/
inductive FinishKind where
  | done
  | cancelled
  | cut
deriving DecidableEq, Repr

/-- A completion record (R94, R103). -/
structure Completion where
  tag        : Byte
  outcome    : FinishKind
  posted     : Nat
  remaining  : Nat
  overshoot  : Nat
  carried    : Bool
  finishedAt : Second
deriving DecidableEq, Repr

/-- An Order Queue (R87). -/
structure OrderQueue where
  orders      : List Order
  gateOpen    : Bool
  completions : List Completion
  unordered   : Nat
  pumped      : Nat
  /-- Model's own (log entry 11): records dropped by overflow since the district's last READ COMPLETIONS was taken (R105). -/
  readDrops   : Nat
deriving DecidableEq, Repr

/-! ### River Block (chapter 6, section 1.9) -/

/-- Cap status (R111). -/
inductive CapStatus where
  | live
  | held
  | fallback
deriving DecidableEq, Repr

/-- Origin of a closure in force (R117). -/
inductive ClosureOrigin where
  | reset
  | commanded
deriving DecidableEq, Repr

/-- The river record (R111) with its stage fields (R19 to R22). Stage freshness and stage used are derived (R20, R21). -/
structure River where
  stage      : Option Int
  stageAge   : Nat
  /-- Model's own (log entry 2): this mark's ageing of the stage would make its freshness fall, and is not taken yet. -/
  stageDue   : Bool
  cap        : Nat
  capStatus  : CapStatus
  silence    : Nat
  /-- Model's own (log entry 2): the judging of the silence at this mark (R113) has an effect and is not taken yet. -/
  silenceDue : Bool
  /-- `none`: closure not in force. -/
  closure    : Option ClosureOrigin
  pselSeen   : Fin 4
  pselAge    : Nat
  /-- Model's own (log entry 2): the filter step at this mark would bring the code seen into force, and is not taken yet. -/
  profileDue : Bool
  profile    : Fin 4
deriving DecidableEq, Repr

/-- The station items of the working configuration (R185). -/
structure StationConfig where
  sill        : Int
  fallbackCap : Nat
  budgets     : Tri Nat
  spacings    : Tri Nat
deriving DecidableEq, Repr

/-! ### Dispatcher (chapter 7) -/

/-- A row of the entitlement table (R145). -/
structure Row where
  demanding   : Bool
  urgency     : Option Urgency
  weight      : Nat
  entitlement : Nat
  use         : Nat
  deficit     : Int
  starved     : Bool
deriving DecidableEq, Repr

/-- The station sums (R128). -/
structure Sums where
  commanded      : Nat
  uncommanded    : Nat
  rundown        : Nat
  free           : Int
  committedPower : Nat
  rundownPower   : Nat
deriving DecidableEq, Repr

/-- The Dispatcher's state (R124). A budget of `none` is no limit. -/
structure Dispatcher where
  request    : Bool
  /-- Model's own (log entry 2): an evaluation of this mark (R125) is not taken yet. -/
  evalDue    : Bool
  table      : Tri Row
  lastEval   : Option Second
  lastStart  : Option Second
  sums       : Sums
  capUsed    : Nat
  budgetUsed : Option Nat
deriving DecidableEq, Repr

/-! ### Configuration Store (chapter 11) -/

/-- The working configuration as one record (R185). -/
structure WorkingConfig where
  curves  : Quad CurveClass
  units   : Oct UnitConfig
  bays    : Tri BayConfig
  station : StationConfig
deriving DecidableEq, Repr

/-- The stored image (R185, R189): it fails its check against its checksum, or it passes and holds a configuration. -/
inductive StoredImage where
  | failing
  | passing (w : WorkingConfig)
deriving DecidableEq, Repr

/-- A commit in progress (R188): the copy taken, the second marks to its end, and (model's own, log entry 2) whether its
end belongs to this mark and is not taken yet. -/
structure Commit where
  copy      : WorkingConfig
  marksLeft : Nat
  due       : Bool
deriving DecidableEq, Repr

/-- The Configuration Store beside the working configuration (R185). -/
structure Store where
  image     : StoredImage
  commit    : Option Commit
  defaulted : Bool
deriving DecidableEq, Repr

/-! ### Notice Unit (chapter 10) -/

/-- The fourteen notice kinds, in code order (R177). -/
inductive NoticeKind where
  | powerUp
  | orderFinished
  | completionOverflow
  | unitTrip
  | unitOffline
  | capChanged
  | closureChanged
  | floatRise
  | lowSuction
  | levelAged
  | stageAged
  | configChanged
  | commitDone
  | commitFailed
deriving DecidableEq, Repr

/-- A latched status entry (R182). -/
structure StatusEntry where
  state         : UnitState
  tripReason    : Option TripReason
  selPos        : Fin 4
  commandedBay  : District
  estimate      : Nat
  configPending : Bool
deriving DecidableEq, Repr

/-- A latched timers entry (R82, R182). -/
structure TimersEntry where
  runHold       : Nat
  rest          : Nat
  stateTimer    : Nat
  historyLength : Nat
  oldestAge     : Nat
deriving DecidableEq, Repr

/-- What a snapshot buffer holds for one unit (R181). -/
structure Latches where
  status : Option StatusEntry
  timers : Option TimersEntry
deriving DecidableEq, Repr

/-- The Notice Unit's record of one port (R177, R178, R181). Bit k of a set or mask stands for the kind with code k.
`attn` is true while ATTN_n is asserted. -/
structure NoticePort where
  set    : BitVec 14
  mask   : BitVec 14
  /-- Model's own (log entry 11): the kinds posted since the port's last READ NOTICES response was built (R180). -/
  since  : BitVec 14
  attn   : Bool
  buffer : Oct Latches
deriving DecidableEq, Repr

/-! ### Port Interfaces (chapter 9) -/

/-- Phase of a Port Interface (R160). -/
inductive Phase where
  | idle
  | receiving
  | answering
deriving DecidableEq, Repr

/-- What the command taken leaves to be done at the rise of SEL_n (R169). -/
inductive EndAction where
  | none
  /-- READ NOTICES: the kinds returned (R180). -/
  | clearNotices (returned : BitVec 14)
  /-- READ COMPLETIONS: the number of records returned (R105). -/
  | removeCompletions (returned : Nat)
  /-- READ SNAPSHOT: the entries returned, in order, each a unit and whether it is the timers entry (R183). -/
  | removeSnapshots (keys : List (UnitId × Bool))
  /-- STATION RESET (R190). -/
  | stationReset
deriving DecidableEq, Repr

/-- A Port Interface (R160) with the level of its SEL_n line (true: high). -/
structure PortIf where
  selN        : Bool
  phase       : Phase
  position    : Nat
  code        : Option Byte
  frameLength : Nat
  sum         : Byte
  status      : Byte × Byte
  response    : List Byte
  frameShort  : Bool
  /-- Model's own (log entry 11). -/
  endAction   : EndAction
deriving DecidableEq, Repr

/-! ### The whole part -/

/-- The state of the part and the queue of the commands that wait for it. -/
structure State where
  pending   : List Instr
  /-- RESET_n: true is high; while it is low the part is held in reset (R189). -/
  resetN    : Bool
  /-- The SVC line (R185). -/
  svc       : Bool
  clock     : Second
  bays      : Tri Bay
  river     : River
  curves    : Quad CurveClass
  station   : StationConfig
  units     : Oct UnitRec
  queues    : Tri OrderQueue
  disp      : Dispatcher
  store     : Store
  notices   : Ports NoticePort
  ports     : Ports PortIf
  /-- Model's own (log entry 9): how many free values have been drawn. -/
  freeDraws : Nat
deriving DecidableEq, Repr

/-- The spec gives the part no fault that stops it: trips, refused frames and lost images are effects on the state. So no
constructor, and no step answers with a fault. -/
inductive Fault where
deriving DecidableEq, Repr

/-- Why the model gives a queue entry no step. Each is safe: the model stops and claims nothing. -/
inductive Refusal where
  /-- Raised by `exec` for a row without a meaning; no arm uses it. Safe. -/
  | notModelled (mnemonic : String)
  /-- Raised by UNKNOWN_COMMAND with a code of the command table and by SHORT_TRANSACTION with bytes that hold the check
  byte: the operands spell another row (R166, R167). Safe. -/
  | illFormed
  /-- Raised by SHORT_TRANSACTION, END_OF_TRANSACTION and SEL_N_RISE_IN_IDLE where SEL_n is low and the port is in the
  phase of another of these rows: the row named is not what a rise of SEL_n is there (R160). Safe. -/
  | otherPhase
deriving DecidableEq, Repr

/-! ### The state after a power-on reset -/

/-- Factory default of every curve class (R189). -/
def factoryCurve : CurveClass :=
  { heads := ⟨0, 2000, 4000, 6000, 8000, 10000⟩, flows := ⟨0, 0, 0, 0, 0, 0⟩, qMin := 0, power := 1 }

/-- Factory default of every unit (R189). -/
def factoryUnit : UnitConfig :=
  { enable := false, cls := 0, reach := ⟨true, true, true⟩, minRun := 300, minRest := 600, maxStarts := 4,
    startTimeout := 30, stopTimeout := 60, travelTimeout := 120 }

/-- Factory default of every bay (R189). -/
def factoryBay : BayConfig := { floor := -1000, floatLevel := 0, floatMode := .selfClearing, weight := 1 }

/-- Factory default of the station items (R189). -/
def factoryStation : StationConfig :=
  { sill := 0, fallbackCap := 0, budgets := ⟨0, 0, 0⟩, spacings := ⟨600, 600, 600⟩ }

/-- The factory defaults (R189). -/
def factoryConfig : WorkingConfig :=
  { curves := ⟨factoryCurve, factoryCurve, factoryCurve, factoryCurve⟩
    units := Oct.ofFn fun _ => factoryUnit
    bays := Tri.ofFn fun _ => factoryBay
    station := factoryStation }

/-- No time left and no expiry due. -/
def Timer.zero : Timer := { left := 0, due := false }

/-- A row of the cleared entitlement table (R147). -/
def clearedRow : Row :=
  { demanding := false, urgency := none, weight := 0, entitlement := 0, use := 0, deficit := 0, starved := false }

/-- The sums of the cleared table (R147). -/
def zeroSums : Sums :=
  { commanded := 0, uncommanded := 0, rundown := 0, free := 0, committedPower := 0, rundownPower := 0 }

/-- The Dispatcher after reset (R147). -/
def resetDispatcher : Dispatcher :=
  { request := false, evalDue := false, table := Tri.ofFn fun _ => clearedRow, lastEval := none, lastStart := none,
    sums := zeroSums, capUsed := 0, budgetUsed := some 0 }

/-- An Order Queue after reset (R110). -/
def resetQueue : OrderQueue :=
  { orders := [], gateOpen := false, completions := [], unordered := 0, pumped := 0, readDrops := 0 }

/-- A snapshot buffer that holds nothing (R184). -/
def emptyLatches : Latches := { status := none, timers := none }

/-- The Notice Unit's record of a port after reset (R184): POWER_UP alone, every kind masked. -/
def resetNoticePort : NoticePort :=
  { set := 1, mask := BitVec.allOnes 14, since := 1, attn := false, buffer := Oct.ofFn fun _ => emptyLatches }

/-- A Port Interface after reset (R160) with its SEL_n line at `selN`. Frame length, running sum, status segment and
response: DESIGN CHOICE, log entry 8. -/
def resetPort (selN : Bool) : PortIf :=
  { selN := selN, phase := .idle, position := 0, code := none, frameLength := 2, sum := 0, status := (0, 0),
    response := [], frameShort := false, endAction := .none }

/-- The part right after a power-on reset with RESET_n high. The lines are at the levels of log entry 6 and the stored
image fails its check (log entry 7), so the working configuration is the factory defaults and CONFIG_DEFAULTED is set (R189);
every block is in its state after reset (R18, R22, R37, R69, R70, R110, R123, R147, R160, R184). -/
def State.reset : State :=
  { pending := []
    resetN := true
    svc := false
    clock := 0
    bays := Tri.ofFn fun _ =>
      { reported := none, age := 0, ageDue := false, floatInput := false, floatDemand := false, lowSuction := false,
        levelUsed := 0, cfg := factoryBay }
    river :=
      { stage := none, stageAge := 0, stageDue := false, cap := 0, capStatus := .fallback, silence := 0,
        silenceDue := false, closure := some .reset, pselSeen := 0, pselAge := 0, profileDue := false, profile := 0 }
    curves := factoryConfig.curves
    station := factoryStation
    units := Oct.ofFn fun _ =>
      { state := .offline, tripReason := none, stopReason := none, commandedBay := 0, selPos := 0, avail := false,
        atSpeed := false, runReq := false, selCmd := some 0, estimate := 0, creditMark := 0, runHold := .zero,
        rest := .zero, stateTimer := .zero, history := [], cfg := factoryUnit, pendingCfg := none, clearedBy := none }
    queues := Tri.ofFn fun _ => resetQueue
    disp := resetDispatcher
    store := { image := .failing, commit := none, defaulted := true }
    notices := ⟨Tri.ofFn fun _ => resetNoticePort, resetNoticePort⟩
    ports := ⟨Tri.ofFn fun _ => resetPort true, resetPort true⟩
    freeDraws := 0 }

end Sys2Proof.Machine
end

