-- ==== Sys2Proof/Machine/Flags.lean ====
section
/-! DEFINITION. Every flag and every derived field the spec gives: freshness, level used, LOW_SUCTION, stage used, the
unit flags, the attention condition, the clock differences and the two bytes of the status segment. -/

namespace Sys2Proof.Machine

/-- The seconds from `t` to `now`, taken modulo 2^32 (R3). -/
def elapsed (now t : Second) : Nat := (now - t).toNat

/-! ### Freshness (R7, R20) -/

/-- Freshness of a report of which only its presence and age count (R7). -/
def freshnessOf (present : Bool) (age : Nat) : Freshness :=
  if !present then .unknown else if age < 60 then .fresh else if age < 300 then .stale else .unknown

/-- Freshness of the bay's level report (R7). -/
def Bay.freshness (b : Bay) : Freshness := freshnessOf b.reported.isSome b.age

/-- Freshness of the stage report (R20). -/
def River.stageFreshness (r : River) : Freshness := freshnessOf r.stage.isSome r.stageAge

/-- The ages at which freshness falls (R7, R20). -/
def fallAge (age : Nat) : Bool := age = 60 || age = 300

/-- Ages saturate at 65,535 (R6, R20, R112). -/
def nextAge (age : Nat) : Nat := min 65535 (age + 1)

/-! ### Level used, LOW_SUCTION, stage used -/

/-- The level used of a bay by R8. -/
def Bay.levelByR8 (b : Bay) : Int :=
  match b.reported, b.freshness with
  | none, _ => b.cfg.floatLevel
  | some _, .unknown => b.cfg.floatLevel
  | some l, .fresh => if b.floatInput then max l b.cfg.floatLevel else l
  | some l, .stale => if b.floatInput then max l b.cfg.floatLevel else l

/-- LOW_SUCTION after evaluation against the level used and the float input (R15). -/
def Bay.lowSuctionByR15 (b : Bay) : Bool :=
  if b.floatInput then false
  else if b.levelUsed < b.cfg.floor then true
  else if b.levelUsed < b.cfg.floor + 100 then b.lowSuction
  else false

/-- The stage used (R21). -/
def River.stageUsed (r : River) (sill : Int) : Int :=
  match r.stage, r.stageFreshness with
  | none, _ => sill
  | some _, .unknown => sill
  | some v, .fresh => v
  | some v, .stale => v

/-! ### Unit flags -/

/-- The unit is in STARTING or RUNNING: the units the Dispatcher counts as commanded (R128). -/
def UnitRec.commanded (u : UnitRec) : Bool := u.state = .starting || u.state = .running

/-- The unit pumps without a run request (R66). -/
def UnitRec.uncommanded (u : UnitRec) : Bool := (u.state = .offline || u.state = .tripped) && u.atSpeed

/-- The unit's rated power counts as committed power (R128). -/
def UnitRec.drawsPower (u : UnitRec) : Bool := u.commanded || u.state = .stopping || u.uncommanded

/-- A RUNNING unit whose run-hold remaining is 0 (R73). -/
def UnitRec.holdExpired (u : UnitRec) : Bool := u.state = .running && u.runHold.left = 0

/-- CONFIG_PENDING (R83). -/
def UnitRec.configPending (u : UnitRec) : Bool := u.pendingCfg.isSome

/-- The bay a selector position connects the unit to; `none` between positions (R40). -/
def selBay : Fin 4 → Option District
  | 0 => some 0
  | 1 => some 1
  | 2 => some 2
  | 3 => none

/-- SELPOS stands at bay `b`. -/
def UnitRec.selectorAt (u : UnitRec) (b : District) : Bool := selBay u.selPos = some b

/-- Age of the oldest history entry, 0 to 3,599; 0 when the list is empty (R82). An entry whose ageing out belongs to this mark
and is not taken yet reads 3,599, as the mark before left it (log entry 14). -/
def UnitRec.oldestAge (u : UnitRec) (now : Second) : Nat :=
  match u.history with
  | [] => 0
  | t :: _ => min 3599 (elapsed now t)

/-- RUNREQ is asserted exactly in STARTING and RUNNING (R41). -/
def UnitState.wantsRun : UnitState → Bool
  | .starting => true
  | .running => true
  | .offline => false
  | .idle => false
  | .resting => false
  | .switching => false
  | .stopping => false
  | .tripped => false

/-! ### Notices -/

/-- Code number of a notice kind (R177). -/
def NoticeKind.code : NoticeKind → Nat
  | .powerUp => 0
  | .orderFinished => 1
  | .completionOverflow => 2
  | .unitTrip => 3
  | .unitOffline => 4
  | .capChanged => 5
  | .closureChanged => 6
  | .floatRise => 7
  | .lowSuction => 8
  | .levelAged => 9
  | .stageAged => 10
  | .configChanged => 11
  | .commitDone => 12
  | .commitFailed => 13

/-- The bit of a kind in a notice set (R180). -/
def NoticeKind.bit (k : NoticeKind) : BitVec 14 := BitVec.twoPow 14 k.code

/-- A set holds at least one unmasked kind: the condition under which ATTN_n is asserted (R178). -/
def attention (set mask : BitVec 14) : Bool := set &&& ~~~mask != 0

/-! ### The profile in force (R122) -/

/-- The item of a power profile: `none` for profile 3, which has no configured one. -/
def profileItem {α : Type} (items : Tri α) : Fin 4 → Option α
  | 0 => some items.a0
  | 1 => some items.a1
  | 2 => some items.a2
  | 3 => none

/-- Budget of the profile in force; `none` is no limit (R122). -/
def State.budget (s : State) : Option Nat := profileItem s.station.budgets s.river.profile

/-- Start spacing of the profile in force; 0 under profile 3 (R122). -/
def State.spacing (s : State) : Nat := (profileItem s.station.spacings s.river.profile).getD 0

/-- A power fits the budget. -/
def withinBudget (budget : Option Nat) (power : Nat) : Bool :=
  match budget with
  | none => true
  | some b => power ≤ b

/-- Closure is in force. -/
def State.closed (s : State) : Bool := s.river.closure.isSome

/-- A commit is in progress (R188). -/
def State.committing (s : State) : Bool := s.store.commit.isSome

/-! ### The status segment (R165, R171) -/

/-- A Boolean as one bit of a byte. -/
def flagBit (b : Bool) (k : Nat) : Nat := if b then 2 ^ k else 0

def CapStatus.code : CapStatus → Nat
  | .live => 0
  | .held => 1
  | .fallback => 2

/-- Byte 0: notice pending, POWER_UP pending, FRAME_SHORT, attention. -/
def statusByte0 (n : NoticePort) (frameShort : Bool) : Byte :=
  BitVec.ofNat 8 (flagBit (n.set != 0) 7 + flagBit (n.set.getLsbD 0) 6 + flagBit frameShort 5 + flagBit n.attn 4)

/-- Byte 1: closure in force, its origin, cap status, profile in force, service mode, commit in progress. -/
def State.statusByte1 (s : State) : Byte :=
  BitVec.ofNat 8 (flagBit s.closed 7 + flagBit (s.river.closure = some .commanded) 6 + s.river.capStatus.code * 16
    + s.river.profile.val * 4 + flagBit s.svc 1 + flagBit s.committing 0)

/-- The status segment of port `p` as it is loaded at the fall of SEL_n (R165). -/
def State.statusSegment (s : State) (p : PortId) : Byte × Byte :=
  (statusByte0 (s.notices.get p) (s.ports.get p).frameShort, s.statusByte1)

end Sys2Proof.Machine
end

