-- ==== Sys2Proof/Machine/Operands.lean ====
section
/-! DEFINITION. The operand forms of the frames (clamping, codes, records carried) and the encodings of the answers
(result codes of R171, field codes of R173, R174, R175, and the record layouts of R104, R106, R146, R183, R187). -/

namespace Sys2Proof.Machine

/-! ### Result codes (R171) -/

/-- The result codes of section 9.4. -/
inductive Result where
  | ok
  | clamped
  | badCheck
  | unknownCommand
  | wrongPort
  | notInService
  | busy
  | badValue
  | queueFull
  | tagInUse
  | noSuchTag
  | notClearable
  | floatActive
  | curveShape
deriving DecidableEq, Repr

def Result.byte : Result → Byte
  | .ok => 0x00
  | .clamped => 0x01
  | .badCheck => 0x10
  | .unknownCommand => 0x11
  | .wrongPort => 0x12
  | .notInService => 0x13
  | .busy => 0x14
  | .badValue => 0x20
  | .queueFull => 0x21
  | .tagInUse => 0x22
  | .noSuchTag => 0x23
  | .notClearable => 0x24
  | .floatActive => 0x25
  | .curveShape => 0x26

/-- OK, or CLAMPED where a value was brought to its range (R2). -/
def okOrClamped (wasClamped : Bool) : Result := if wasClamped then .clamped else .ok

/-! ### Clamping (R2) -/

/-- The nearest value of lo to hi. -/
def clampNat (lo hi v : Nat) : Nat := max lo (min hi v)

/-- The nearest value of lo to hi, signed. -/
def clampInt (lo hi v : Int) : Int := max lo (min hi v)

/-- Level of REPORT LEVEL and of a bay configuration (R5, R186). -/
def clampLevel (v : BitVec 16) : Int := clampInt (-9999) 9999 v.toInt

/-- Stage of REPORT STAGE (R19). -/
def clampStage (v : BitVec 16) : Int := clampInt (-5000) 15000 v.toInt

/-- Cap of SET CAP and fallback cap (R115, R116). -/
def clampCap (v : BitVec 16) : Nat := clampNat 0 60000 v.toNat

/-! ### Codes in arguments -/

/-- Urgency code (R88): 0, 1, 2. -/
def urgencyOf (code : Byte) : Option Urgency :=
  match code.toNat with
  | 0 => some .routine
  | 1 => some .high
  | 2 => some .emergency
  | _ => none

/-- A unit number 0 to 7 (R65, R174). -/
def unitOf (n : Byte) : Option UnitId := if h : n.toNat < 8 then some ⟨n.toNat, h⟩ else none

/-- A bay number 0 to 2 (R175). -/
def bayOf (n : Byte) : Option District := if h : n.toNat < 3 then some ⟨n.toNat, h⟩ else none

/-- A class number 0 to 3 (R25). -/
def classOf (n : Byte) : Option ClassId := if h : n.toNat < 4 then some ⟨n.toNat, h⟩ else none

/-- A yes/no code: 0 no, 1 yes (R186). -/
def yesNoOf (n : Byte) : Option Bool :=
  match n.toNat with
  | 0 => some false
  | 1 => some true
  | _ => none

/-- Float mode code (R186): 0 SELF_CLEARING, 1 LATCHED. -/
def floatModeOf (n : Byte) : Option FloatMode :=
  match n.toNat with
  | 0 => some .selfClearing
  | 1 => some .latched
  | _ => none

/-- Reach: bit b for bay Bb; bits 7 to 3 ignored; all three bits zero is refused (R186). -/
def reachOf (n : Byte) : Option (Tri Bool) :=
  let r : Tri Bool := ⟨n.getLsbD 0, n.getLsbD 1, n.getLsbD 2⟩
  if r.a0 || r.a1 || r.a2 then some r else none

/-! ### Records carried by the configuration writes -/

/-- Step 2 of R25: every numeric field clamped to its range. -/
def curveRecord (a : CurveArgs) : CurveClass :=
  { heads := a.heads.map fun v => clampNat 0 20000 v.toNat
    flows := a.flows.map fun v => clampNat 0 12000 v.toNat
    qMin := clampNat 0 12000 a.qMin.toNat
    power := clampNat 1 4000 a.power.toNat }

/-- Some numeric field of the write lay outside its range (R25). -/
def curveClamped (a : CurveArgs) : Bool :=
  let r := curveRecord a
  r.heads != a.heads.map BitVec.toNat || r.flows != a.flows.map BitVec.toNat
    || r.qMin != a.qMin.toNat || r.power != a.power.toNat

/-- The shape conditions of R26. -/
def CurveClass.shapely (c : CurveClass) : Bool :=
  c.heads.a0 < c.heads.a1 && c.heads.a1 < c.heads.a2 && c.heads.a2 < c.heads.a3 && c.heads.a3 < c.heads.a4
    && c.heads.a4 < c.heads.a5
    && c.flows.a1 ≤ c.flows.a0 && c.flows.a2 ≤ c.flows.a1 && c.flows.a3 ≤ c.flows.a2 && c.flows.a4 ≤ c.flows.a3
    && c.flows.a5 ≤ c.flows.a4
    && c.qMin ≤ c.flows.a0

/-- The unit configuration a WRITE UNIT CONFIG carries, clamped, with the unit it names; `none` where R186 refuses
the write with BAD_VALUE. -/
def unitRecord (a : UnitArgs) : Option (UnitId × UnitConfig) :=
  match unitOf a.unit, yesNoOf a.enable, classOf a.cls, reachOf a.reach with
  | some u, some en, some c, some r =>
    some (u,
      { enable := en, cls := c, reach := r
        minRun := clampNat 60 3600 a.minRun.toNat
        minRest := clampNat 60 3600 a.minRest.toNat
        maxStarts := clampNat 1 6 a.maxStarts.toNat
        startTimeout := clampNat 5 120 a.startTimeout.toNat
        stopTimeout := clampNat 5 300 a.stopTimeout.toNat
        travelTimeout := clampNat 10 600 a.travelTimeout.toNat })
  | _, _, _, _ => none

/-- Some number of the write lay outside its range (R186). -/
def unitClamped (a : UnitArgs) (c : UnitConfig) : Bool :=
  c.minRun != a.minRun.toNat || c.minRest != a.minRest.toNat || c.maxStarts != a.maxStarts.toNat
    || c.startTimeout != a.startTimeout.toNat || c.stopTimeout != a.stopTimeout.toNat
    || c.travelTimeout != a.travelTimeout.toNat

/-- The bay configuration a WRITE BAY CONFIG carries, clamped, with the bay it names; `none` where R186 refuses the write
with BAD_VALUE, after clamping too when the float level lies below floor + 100. -/
def bayRecord (a : BayArgs) : Option (District × BayConfig) :=
  match bayOf a.bay, floatModeOf a.floatMode with
  | some b, some m =>
    let c : BayConfig :=
      { floor := clampLevel a.floor, floatLevel := clampLevel a.floatLevel, floatMode := m
        weight := clampNat 1 15 a.weight.toNat }
    if c.floatLevel < c.floor + 100 then none else some (b, c)
  | _, _ => none

/-- Some number of the write lay outside its range (R186). -/
def bayClamped (a : BayArgs) (c : BayConfig) : Bool :=
  c.floor != a.floor.toInt || c.floatLevel != a.floatLevel.toInt || c.weight != a.weight.toNat

/-- The station items a WRITE STATION CONFIG carries, clamped (R186). -/
def stationRecord (a : StationArgs) : StationConfig :=
  { sill := clampInt (-2000) 15000 a.sill.toInt
    fallbackCap := clampCap a.fallbackCap
    budgets := a.budgets.map fun v => clampNat 0 20000 v.toNat
    spacings := a.spacings.map fun v => clampNat 0 600 v.toNat }

/-- Some number of the write lay outside its range (R186). -/
def stationClamped (a : StationArgs) : Bool :=
  let r := stationRecord a
  r.sill != a.sill.toInt || r.fallbackCap != a.fallbackCap.toNat
    || r.budgets != a.budgets.map BitVec.toNat || r.spacings != a.spacings.map BitVec.toNat

/-! ### Field codes of the answers (R173, R174, R175) -/

def boolCode (b : Bool) : Nat := if b then 1 else 0

def Freshness.code : Freshness → Nat
  | .fresh => 0
  | .stale => 1
  | .unknown => 2

def FloatMode.code : FloatMode → Nat
  | .selfClearing => 0
  | .latched => 1

def UnitState.code : UnitState → Nat
  | .offline => 0
  | .idle => 1
  | .resting => 2
  | .switching => 3
  | .starting => 4
  | .running => 5
  | .stopping => 6
  | .tripped => 7

def TripReason.code : TripReason → Nat
  | .startTimeout => 0
  | .lostRun => 1
  | .stopTimeout => 2
  | .selector => 3
  | .travelTimeout => 4
  | .uncommandedRun => 5

def StopReason.code : StopReason → Nat
  | .shedCap => 0
  | .shedPower => 1
  | .closure => 2
  | .head => 3
  | .suction => 4
  | .noDemand => 5
  | .rebalance => 6

def Urgency.code : Urgency → Nat
  | .routine => 0
  | .high => 1
  | .emergency => 2

def OrderState.code : OrderState → Nat
  | .queued => 0
  | .active => 1
  | .suspended => 2

def FinishKind.code : FinishKind → Nat
  | .done => 0
  | .cancelled => 1
  | .cut => 2

def PortId.code : PortId → Nat
  | .district d => d.val
  | .river => 3

def closureCode : Option ClosureOrigin → Nat
  | none => 0
  | some .reset => 1
  | some .commanded => 2

/-- A field that reads 255 when absent (R146, R174). -/
def codeOrAbsent {α : Type} (code : α → Nat) : Option α → Nat
  | none => 255
  | some x => code x

/-- Reach as one byte: bit b for bay Bb (R174). -/
def reachCode (r : Tri Bool) : Nat := flagBit r.a0 0 + flagBit r.a1 1 + flagBit r.a2 2

/-- A budget as a field: 65,535 is no limit (R146, R173). -/
def budgetCode : Option Nat → Nat
  | none => 65535
  | some b => b

/-- One byte of an answer. -/
def byte1 (v : Nat) : List Byte := beBytes 1 v

/-! ### Record layouts of the answers -/

/-- One order entry of READ QUEUE, 19 bytes (R106). -/
def Order.bytes (o : Order) : List Byte :=
  [o.tag] ++ byte1 o.urgency.code ++ byte1 o.state.code ++ beBytes 4 o.posted ++ beBytes 4 o.remaining
    ++ beBytes 4 o.postedAt.toNat ++ beBytes 4 (o.deadline.getD 0)

/-- One record of READ COMPLETIONS, 19 bytes (R104). -/
def Completion.bytes (r : Completion) : List Byte :=
  [r.tag] ++ byte1 r.outcome.code ++ beBytes 4 r.posted ++ beBytes 4 r.remaining ++ beBytes 4 r.overshoot
    ++ byte1 (boolCode r.carried) ++ beBytes 4 r.finishedAt.toNat

/-- One district row of READ ALLOCATION, 14 bytes (R146). -/
def Row.bytes (r : Row) : List Byte :=
  byte1 (boolCode r.demanding) ++ byte1 (codeOrAbsent Urgency.code r.urgency) ++ byte1 r.weight
    ++ beBytes 2 r.entitlement ++ beBytes 4 r.use ++ beSigned 4 r.deficit ++ byte1 (boolCode r.starved)

/-- A status entry of READ SNAPSHOT, 9 bytes (R183). -/
def StatusEntry.bytes (u : UnitId) (e : StatusEntry) : List Byte :=
  byte1 u.val ++ byte1 0 ++ byte1 e.state.code ++ byte1 (codeOrAbsent TripReason.code e.tripReason)
    ++ byte1 e.selPos.val ++ byte1 e.commandedBay.val ++ beBytes 2 e.estimate ++ byte1 (boolCode e.configPending)

/-- A timers entry of READ SNAPSHOT, 11 bytes (R183). -/
def TimersEntry.bytes (u : UnitId) (e : TimersEntry) : List Byte :=
  byte1 u.val ++ byte1 1 ++ beBytes 2 e.runHold ++ beBytes 2 e.rest ++ beBytes 2 e.stateTimer
    ++ byte1 e.historyLength ++ beBytes 2 e.oldestAge

/-- A class record in the argument layout of WRITE CURVE, 29 bytes (R25, R187). -/
def CurveClass.bytes (i : ClassId) (c : CurveClass) : List Byte :=
  byte1 i.val ++ c.heads.toList.flatMap (beBytes 2) ++ c.flows.toList.flatMap (beBytes 2) ++ beBytes 2 c.qMin
    ++ beBytes 2 c.power

/-- A unit configuration in the argument layout of WRITE UNIT CONFIG, 15 bytes (R186, R187). -/
def UnitConfig.bytes (i : UnitId) (c : UnitConfig) : List Byte :=
  byte1 i.val ++ byte1 (boolCode c.enable) ++ byte1 c.cls.val ++ byte1 (reachCode c.reach) ++ beBytes 2 c.minRun
    ++ beBytes 2 c.minRest ++ byte1 c.maxStarts ++ beBytes 2 c.startTimeout ++ beBytes 2 c.stopTimeout
    ++ beBytes 2 c.travelTimeout

/-- A bay configuration in the argument layout of WRITE BAY CONFIG, 7 bytes (R186, R187). -/
def BayConfig.bytes (i : District) (c : BayConfig) : List Byte :=
  byte1 i.val ++ beSigned 2 c.floor ++ beSigned 2 c.floatLevel ++ byte1 c.floatMode.code ++ byte1 c.weight

/-- The station items in the argument layout of WRITE STATION CONFIG, 16 bytes (R186, R187). -/
def StationConfig.bytes (c : StationConfig) : List Byte :=
  beSigned 2 c.sill ++ beBytes 2 c.fallbackCap ++ c.budgets.toList.flatMap (beBytes 2)
    ++ c.spacings.toList.flatMap (beBytes 2)

/-- `n` bytes that read 0 (R164). -/
def zeroFill (n : Nat) : List Byte := List.replicate n 0

end Sys2Proof.Machine
end

