-- ==== Sys2Proof/Machine/Ops.lean ====
section
/-! DEFINITION. The named operations over the blocks of the state: replacing one record, posting and withdrawing
notices with the attention line driven again (R177, R178), and the re-evaluation request (R126). -/

namespace Sys2Proof.Machine

/-! ### Replacing one record -/

def State.setBay (s : State) (d : District) (b : Bay) : State := { s with bays := s.bays.set d b }
def State.setUnit (s : State) (i : UnitId) (u : UnitRec) : State := { s with units := s.units.set i u }
def State.setQueue (s : State) (d : District) (q : OrderQueue) : State := { s with queues := s.queues.set d q }
def State.setRiver (s : State) (r : River) : State := { s with river := r }
def State.setDisp (s : State) (x : Dispatcher) : State := { s with disp := x }
def State.setStore (s : State) (x : Store) : State := { s with store := x }
def State.setPort (s : State) (p : PortId) (x : PortIf) : State := { s with ports := s.ports.set p x }
def State.setNotice (s : State) (p : PortId) (x : NoticePort) : State := { s with notices := s.notices.set p x }
def State.setNotices (s : State) (x : Ports NoticePort) : State := { s with notices := x }

/-! ### Notices (R177, R178) -/

/-- Drive ATTN_n: asserted exactly while the set holds an unmasked kind (R178). -/
def NoticePort.drive (n : NoticePort) : NoticePort := { n with attn := attention n.set n.mask }

/-- Add a kind to the set (R177). -/
def NoticePort.post (n : NoticePort) (k : NoticeKind) : NoticePort :=
  NoticePort.drive { n with set := n.set ||| k.bit, since := n.since ||| k.bit }

/-- Take the kinds of `bits` out of the set: a clear (R180) or a withdrawal (R14). -/
def NoticePort.remove (n : NoticePort) (bits : BitVec 14) : NoticePort :=
  NoticePort.drive { n with set := n.set &&& ~~~bits }

/-- Replace the mask (R179). -/
def NoticePort.setMask (n : NoticePort) (m : BitVec 14) : NoticePort := NoticePort.drive { n with mask := m }

/-- Post a kind to all four ports. -/
def State.postAll (s : State) (k : NoticeKind) : State := s.setNotices (s.notices.map fun n => n.post k)

/-- Post a kind to one port. -/
def State.postTo (s : State) (p : PortId) (k : NoticeKind) : State := s.setNotice p ((s.notices.get p).post k)

/-- Withdraw a kind from one port's set. -/
def State.withdraw (s : State) (p : PortId) (k : NoticeKind) : State :=
  s.setNotice p ((s.notices.get p).remove k.bit)

/-- A re-evaluation request: pending, also when it was pending already (R126). -/
def State.requestEvaluation (s : State) : State := s.setDisp { s.disp with request := true }

/-- `f` where `c` holds; the state as it is otherwise. -/
def State.onlyIf (s : State) (c : Bool) (f : State → State) : State := if c then f s else s

/-- A line event, an event of a mark or a frame reaches the part only while RESET_n is high (R189). -/
def State.whileUp (s : State) (f : State → State) : Host.Outcome State Fault Refusal :=
  .next (if s.resetN then f s else s)

/-- A change of an input line: `level` moves the line, `act` is what the part does on taking the change. While RESET_n is
low the part takes no change, and the line is read as it stands at the end of the reset (R189). -/
def State.lineChange (s : State) (level act : State → State) : Host.Outcome State Fault Refusal :=
  .next (if s.resetN then act s else level s)

end Sys2Proof.Machine
end

