-- ==== Sys2Proof/Machine/BayBlock.lean ====
section
/-! DEFINITION. The Bay Block (chapter 1): one bay record's events as operations on the record, each with the notice and
the request it raises, and the operation that carries them out on the part. -/

namespace Sys2Proof.Machine

/-- What an event of a bay does: the record after it, and whether it posts LOW_SUCTION and requests a re-evaluation. -/
structure BayEffect where
  bay         : Bay
  postSuction : Bool := false
  request     : Bool := false
deriving DecidableEq, Repr

/-- Recompute the level used by R8 and evaluate LOW_SUCTION by R15, with the notice and the request of R16. -/
def Bay.recompute (b : Bay) : BayEffect :=
  let b1 := { b with levelUsed := b.levelByR8 }
  let low := b1.lowSuctionByR15
  { bay := { b1 with lowSuction := low }, postSuction := low && !b.lowSuction, request := low != b.lowSuction }

/-- A level report taken (R5). The ageing of a mark that is due and not taken yet stays due (R7). -/
def Bay.report (b : Bay) (level : Int) : BayEffect := Bay.recompute { b with reported := some level, age := 0 }

/-- The bay's part of a second mark (R6), but for an ageing at which freshness falls: that one becomes due and is the
step FRESHNESS_FALL (R7, R9). -/
def Bay.tick (b : Bay) : Bay :=
  if b.reported.isNone then b
  else if fallAge (b.age + 1) then { b with ageDue := true }
  else { b with age := nextAge b.age }

/-- The bay's ageing of a mark, where it is due: the age counts, and at 60 or 300 freshness falls and the level used is
recomputed (R7, R9). The second component: LEVEL_AGED is posted. -/
def Bay.takeAgeing (b : Bay) : BayEffect × Bool :=
  if !b.ageDue then ({ bay := b }, false)
  else if b.reported.isNone then ({ bay := { b with ageDue := false } }, false)
  else
    let b1 := { b with age := nextAge b.age, ageDue := false }
    if fallAge b1.age then (b1.recompute, true) else ({ bay := b1 }, false)

/-- Float demand after a rise, and whether it requests a re-evaluation (R11, R12). -/
def Bay.demandAfterRise (b : Bay) : Bool × Bool :=
  match b.cfg.floatMode with
  | .selfClearing => (true, true)
  | .latched => (true, !b.floatDemand)

/-- A rise of FLOAT (R10, R11, R12). -/
def Bay.floatRise (b : Bay) : BayEffect :=
  let e := Bay.recompute { b with floatInput := true, floatDemand := b.demandAfterRise.1 }
  { e with request := e.request || b.demandAfterRise.2 }

/-- A fall of FLOAT (R10, R11, R12). -/
def Bay.floatFall (b : Bay) : BayEffect :=
  match b.cfg.floatMode with
  | .selfClearing => { Bay.recompute { b with floatInput := false, floatDemand := false } with request := true }
  | .latched => Bay.recompute { b with floatInput := false }

/-- A bay configuration takes effect (R17): a change of floor, float level or float mode recomputes (R9); a change to
SELF_CLEARING that finds float demand active with the float input low ends it. -/
def Bay.configure (b : Bay) (c : BayConfig) : BayEffect :=
  let ends := b.cfg.floatMode = .latched && c.floatMode = .selfClearing && b.floatDemand && !b.floatInput
  let b1 := { b with cfg := c, floatDemand := b.floatDemand && !ends }
  if c.floor = b.cfg.floor && c.floatLevel = b.cfg.floatLevel && c.floatMode = b.cfg.floatMode then { bay := b1 }
  else
    let e := b1.recompute
    { e with request := e.request || ends }

/-- The bay record after a reset (R18), with its configuration and its FLOAT line as they stand. -/
def Bay.afterReset (b : Bay) : Bay :=
  { reported := none, age := 0, ageDue := false, floatInput := b.floatInput, floatDemand := b.floatInput
    lowSuction := false, levelUsed := b.cfg.floatLevel, cfg := b.cfg }

/-- Carry out an event of bay `d`. -/
def State.applyBay (s : State) (d : District) (e : BayEffect) : State :=
  ((s.setBay d e.bay).onlyIf e.postSuction fun s => s.postTo (.district d) .lowSuction).onlyIf e.request
    State.requestEvaluation

/-- Some bay has float demand active. -/
def State.anyFloatDemand (s : State) : Bool := districts.any fun d => (s.bays.get d).floatDemand

/-- Withdraw FLOAT_RISE when the float demand of bay `d` has ended (R14). -/
def State.withdrawFloatRise (s : State) (d : District) : State :=
  (s.withdraw (.district d) .floatRise).onlyIf (!s.anyFloatDemand) fun s => s.withdraw .river .floatRise

/-- A rise of FLOAT taken (R10). -/
def State.floatRise (s : State) (d : District) : State :=
  ((s.applyBay d (s.bays.get d).floatRise).postTo (.district d) .floatRise).postTo .river .floatRise

/-- A fall of FLOAT taken (R10, R11, R14): in SELF_CLEARING mode float demand ends and FLOAT_RISE is withdrawn. -/
def State.floatFall (s : State) (d : District) : State :=
  let b := s.bays.get d
  (s.applyBay d b.floatFall).onlyIf (b.cfg.floatMode = .selfClearing) fun s => s.withdrawFloatRise d

/-- A bay configuration taken over (R17): where it ends float demand, FLOAT_RISE is withdrawn. -/
def State.configureBay (s : State) (d : District) (c : BayConfig) : State :=
  let e := (s.bays.get d).configure c
  (s.applyBay d e).onlyIf ((s.bays.get d).floatDemand && !e.bay.floatDemand) fun s => s.withdrawFloatRise d

/-- The bay's ageing of this mark (R7). -/
def State.ageBay (s : State) (d : District) : State :=
  let r := (s.bays.get d).takeAgeing
  (s.applyBay d r.1).onlyIf r.2 fun s => s.postTo (.district d) .levelAged

end Sys2Proof.Machine
end

