-- ==== Sys2Proof/Machine/Curve.lean ====
section
/-! DEFINITION. Head (R23), interpolation on a curve class (R28, R29) and the estimates of a unit (R30, R32). -/

namespace Sys2Proof.Machine

/-- The flow on one segment, rounded up: Qi less the truncated quotient of R29. -/
def segmentFlow (hi hj qi qj h : Nat) : Nat := qi - (qi - qj) * (h - hi) / (hj - hi)

/-- The flow of a class at a head (R28). -/
def CurveClass.flowAt (c : CurveClass) (h : Nat) : Nat :=
  if h ≤ c.heads.a0 then c.flows.a0
  else if c.heads.a5 ≤ h then c.flows.a5
  else if h < c.heads.a1 then segmentFlow c.heads.a0 c.heads.a1 c.flows.a0 c.flows.a1 h
  else if h < c.heads.a2 then segmentFlow c.heads.a1 c.heads.a2 c.flows.a1 c.flows.a2 h
  else if h < c.heads.a3 then segmentFlow c.heads.a2 c.heads.a3 c.flows.a2 c.flows.a3 h
  else if h < c.heads.a4 then segmentFlow c.heads.a3 c.heads.a4 c.flows.a3 c.flows.a4 h
  else segmentFlow c.heads.a4 c.heads.a5 c.flows.a4 c.flows.a5 h

/-- The larger of the stage used and the sill. -/
def State.outlet (s : State) : Int := max (s.river.stageUsed s.station.sill) s.station.sill

/-- Head of bay `b`, clamped to 0 to 20,000 mm (R23). -/
def State.head (s : State) (b : District) : Nat := (clampInt 0 20000 (s.outlet - (s.bays.get b).levelUsed)).toNat

/-- The estimate of a unit of class `cls` at bay `b` (R30). -/
def State.estimateAt (s : State) (cls : ClassId) (b : District) : Nat := (s.curves.get cls).flowAt (s.head b)

/-- The largest of the unit's estimates over the bays of its reach. -/
def State.reachEstimate (s : State) (u : UnitRec) : Nat :=
  districts.foldr (fun b m => if u.cfg.reach.get b then max (s.estimateAt u.cfg.cls b) m else m) 0

/-- The uncommanded estimate: at SELPOS, or the largest over the reach between positions (R32). -/
def State.uncommandedEstimate (s : State) (u : UnitRec) : Nat :=
  match selBay u.selPos with
  | some b => s.estimateAt u.cfg.cls b
  | none => s.reachEstimate u

/-- The current estimate that the estimates stage gives a unit by its state (R31). -/
def State.newEstimate (s : State) (u : UnitRec) : Nat :=
  match u.state with
  | .idle => s.estimateAt u.cfg.cls u.commandedBay
  | .resting => s.estimateAt u.cfg.cls u.commandedBay
  | .switching => s.estimateAt u.cfg.cls u.commandedBay
  | .starting => s.estimateAt u.cfg.cls u.commandedBay
  | .running => s.estimateAt u.cfg.cls u.commandedBay
  | .stopping => u.estimate
  | .offline => if u.atSpeed then s.uncommandedEstimate u else 0
  | .tripped => if u.atSpeed then s.uncommandedEstimate u else 0

/-- The class record a unit's configuration in force names. -/
def State.classOfUnit (s : State) (u : UnitRec) : CurveClass := s.curves.get u.cfg.cls

/-- Rated power of a unit (R36). -/
def State.ratedPower (s : State) (u : UnitRec) : Nat := (s.classOfUnit u).power

end Sys2Proof.Machine
end

