-- ==== Sys2Proof/Machine/QueueBlock.lean ====
section
/-! DEFINITION. The Order Queue (chapters 5 and 8): posting, finishing, crediting, closure and the gate, as operations on
one queue, and the operation that carries them out on the part. -/

namespace Sys2Proof.Machine

/-- What an event of a queue does: the queue after it, and whether it posts ORDER_FINISHED and COMPLETION_OVERFLOW. -/
structure QueueEffect where
  queue      : OrderQueue
  finished   : Bool := false
  overflowed : Bool := false
deriving DecidableEq, Repr

/-- The state of the oldest order of a list (R90). -/
def headState (closed : Bool) : OrderState := if closed then .suspended else .active

/-- The oldest order of the list takes the state R90 gives it: promotion, suspension and resumption (R90, R99). -/
def settleHead (closed : Bool) : List Order → List Order
  | [] => []
  | o :: os => { o with state := headState closed } :: os

/-- The queue call presented to the Dispatcher (R100). -/
def OrderQueue.call (q : OrderQueue) : Option Urgency :=
  match q.gateOpen, q.orders with
  | true, o :: _ => if o.state = .active then some o.urgency else none
  | _, _ => none

/-- Append one completion record; a full list drops its oldest record first (R103). The count says how many were
dropped so far in the event. -/
def appendCompletion (acc : List Completion × Nat) (r : Completion) : List Completion × Nat :=
  if 8 ≤ acc.1.length then (acc.1.tail ++ [r], acc.2 + 1) else (acc.1 ++ [r], acc.2)

/-- The common part of every finish (R94 steps 2 to 5): the records are appended in order, the gate closes on an empty
list, ORDER_FINISHED is posted once, and COMPLETION_OVERFLOW once if a record was dropped (R103, R154). `orders` is the
list as the finish leaves it. -/
def OrderQueue.finish (q : OrderQueue) (orders : List Order) (records : List Completion) : QueueEffect :=
  let r := records.foldl appendCompletion (q.completions, 0)
  { queue :=
      { q with
        orders := orders
        gateOpen := q.gateOpen && !orders.isEmpty
        completions := r.1
        readDrops := min 8 (q.readDrops + r.2) }
    finished := !records.isEmpty
    overflowed := r.2 != 0 }

/-- The record of an order that is cancelled or cut (R94). -/
def Order.endedAs (o : Order) (k : FinishKind) (now : Second) : Completion :=
  { tag := o.tag, outcome := k, posted := o.posted, remaining := o.remaining, overshoot := 0, carried := false,
    finishedAt := now }

/-- The record of an order that finishes DONE with `beyond` litres beyond its remaining (R94, R153). -/
def Order.doneWith (o : Order) (beyond : Nat) (carried : Bool) (now : Second) : Completion :=
  { tag := o.tag, outcome := .done, posted := o.posted, remaining := 0, overshoot := beyond, carried := carried,
    finishedAt := now }

/-! ### Credits (R152 to R154) -/

/-- A credit of `k` litres taken by the oldest order, with carry (R153): the records of the finished orders, the orders
left, and the leftover. -/
def spend (now : Second) : Nat → List Order → List Completion × List Order × Nat
  | k, [] => ([], [], k)
  | k, o :: os =>
    if k < o.remaining then ([], { o with remaining := o.remaining - k } :: os, 0)
    else
      let r := spend now (k - o.remaining) os
      (o.doneWith (k - o.remaining) (!os.isEmpty) now :: r.1, r.2.1, r.2.2)

/-- Apply a credit of `c` litres (R152): pumped total, orders with carry, unordered volume. -/
def OrderQueue.credit (q : OrderQueue) (closed : Bool) (now : Second) (c : Nat) : QueueEffect :=
  let r := spend now c q.orders
  let q1 := { q with pumped := min (2 ^ 48 - 1) (q.pumped + c), unordered := min 4294967295 (q.unordered + r.2.2) }
  if r.1.isEmpty then { queue := { q1 with orders := r.2.1 } } else q1.finish (settleHead closed r.2.1) r.1

/-! ### Posting, cancelling, cutting -/

/-- The list holds an order with the tag. -/
def OrderQueue.hasTag (q : OrderQueue) (tag : Byte) : Bool := q.orders.any fun o => o.tag = tag

/-- Append a new order; in an empty list it is promoted (R92). -/
def OrderQueue.post (q : OrderQueue) (closed : Bool) (o : Order) : OrderQueue :=
  match q.orders with
  | [] => { q with orders := settleHead closed [o] }
  | _ :: _ => { q with orders := q.orders ++ [{ o with state := .queued }] }

/-- Take the orders that `gone` names out of the list, oldest first; if the oldest is among them the oldest order left
is promoted (R94, R96, R97). -/
def OrderQueue.leave (q : OrderQueue) (closed : Bool) (now : Second) (k : FinishKind) (gone : Order → Bool) :
    QueueEffect :=
  let stay := q.orders.filter fun o => !gone o
  let records := (q.orders.filter gone).map fun o => o.endedAs k now
  let headLeaves := match q.orders with
    | [] => false
    | o :: _ => gone o
  if records.isEmpty then { queue := q }
  else q.finish (if headLeaves then settleHead closed stay else stay) records

/-- The order with the tag, the first of the list. -/
def OrderQueue.find (q : OrderQueue) (tag : Byte) : Option Order := q.orders.find? fun o => o.tag = tag

/-- The deadline time of an order: posted time plus deadline, in station seconds (R97, R3). -/
def Order.deadlineTime (o : Order) : Option Second := o.deadline.map fun n => o.postedAt + BitVec.ofNat 32 n

/-- The order's deadline time is now (R97). -/
def Order.expiresAt (now : Second) (o : Order) : Bool := o.deadlineTime = some now

/-- The deadlines that expire now cut their orders, in one event, oldest first (R97). -/
def OrderQueue.cutExpired (q : OrderQueue) (closed : Bool) (now : Second) : QueueEffect :=
  q.leave closed now .cut (Order.expiresAt now)

/-- Replace the urgency of the order with the tag (R98). -/
def OrderQueue.setUrgency (q : OrderQueue) (tag : Byte) (u : Urgency) : OrderQueue :=
  { q with orders := q.orders.map fun o => if o.tag = tag then { o with urgency := u } else o }

/-! ### On the part -/

/-- Carry out an event of queue `d`. -/
def State.applyQueue (s : State) (d : District) (e : QueueEffect) : State :=
  ((s.setQueue d e.queue).onlyIf e.finished fun s => s.postTo (.district d) .orderFinished).onlyIf e.overflowed
    fun s => s.postTo (.district d) .completionOverflow

/-- A credit that reaches the Order Queue of district `d` (R152). -/
def State.creditQueue (s : State) (d : District) (c : Nat) : State :=
  s.applyQueue d ((s.queues.get d).credit s.closed s.clock c)

/-- Closure came into force or ended: the oldest order of every list follows (R99). -/
def State.settleQueues (s : State) : State :=
  { s with queues := s.queues.map fun q => { q with orders := settleHead s.closed q.orders } }

/-- The deadline expiries of queue `d` at this mark (R97). -/
def State.cutQueue (s : State) (d : District) : State :=
  s.applyQueue d ((s.queues.get d).cutExpired s.closed s.clock)

end Sys2Proof.Machine
end

