-- ==== Sys2Proof/Machine/UnitController.lean ====
section
/-! DEFINITION. The Unit Controller (chapters 3 and 4): every transition of a unit as an operation on its record, with
the credit it sends and the notices it posts, and the operation that carries it out on the part. -/

namespace Sys2Proof.Machine

/-- What an event of a unit does: the record after it, the credit it sends (district and litres), and whether it
entered TRIPPED (R62) or OFFLINE from service (R68). -/
structure UnitEffect where
  unit        : UnitRec
  credit      : Option (District × Nat) := none
  tripped     : Bool := false
  wentOffline : Bool := false
deriving DecidableEq, Repr

/-! ### Timers (R71, R72) -/

/-- A timer loaded with `n`: it first counts at the next mark. -/
def loadTimer (n : Nat) : Timer := { left := n, due := false }

/-- The timer's part of a second mark; the decrease from 1 to 0 becomes due as an event of its own (R72). -/
def Timer.tick (t : Timer) : Timer :=
  if t.left = 0 then t else if t.left = 1 then { t with due := true } else { t with left := t.left - 1 }

/-- The unit's part of a second mark. -/
def UnitRec.tick (u : UnitRec) : UnitRec :=
  { u with runHold := u.runHold.tick, rest := u.rest.tick, stateTimer := u.stateTimer.tick }

/-! ### Credits (R149, R151) -/

/-- The credit from the credit mark to now at the current estimate, in litres (R149). -/
def UnitRec.creditLitres (u : UnitRec) (now : Second) : Nat := elapsed now u.creditMark * u.estimate

/-- A RUNNING unit computes its credit: the mark becomes now, and a credit above 0 goes to the district of the commanded
bay (R149). A unit in another state sends nothing (R151). -/
def UnitRec.closeCredit (u : UnitRec) (now : Second) : UnitRec × Option (District × Nat) :=
  if u.state = .running then
    ({ u with creditMark := now },
      if u.creditLitres now = 0 then none else some (u.commandedBay, u.creditLitres now))
  else (u, none)

/-- The estimates stage hands over a new estimate; a RUNNING unit credits its old one first (R33). -/
def UnitRec.takeEstimate (u : UnitRec) (now : Second) (q : Nat) : UnitEffect :=
  let r := u.closeCredit now
  { unit := { r.1 with estimate := q }, credit := r.2 }

/-! ### Entering states -/

/-- A pending configuration comes into force (R84). -/
def UnitRec.adoptPending (u : UnitRec) : UnitRec :=
  match u.pendingCfg with
  | none => u
  | some c => { u with cfg := c, pendingCfg := none }

/-- Every timer to 0. -/
def UnitRec.clearTimers (u : UnitRec) : UnitRec := { u with runHold := .zero, rest := .zero, stateTimer := .zero }

/-- Enter TRIPPED (R62): the credit is closed, RUNREQ removed, the timers cleared, a pending configuration comes into
force, UNIT_TRIP is posted and a re-evaluation requested. -/
def UnitRec.trip (u : UnitRec) (now : Second) (why : TripReason) : UnitEffect :=
  let r := u.closeCredit now
  { unit := ({ r.1.clearTimers with state := .tripped, tripReason := some why, runReq := false }).adoptPending
    credit := r.2
    tripped := true }

/-- Enter RESTING with a full rest (R43, R53, R65, R75). -/
def UnitRec.beginRest (u : UnitRec) : UnitRec :=
  { u with state := .resting, tripReason := none, rest := loadTimer u.cfg.minRest, stateTimer := .zero }

/-- Enter RESTING at the bay where the selector stands (R43, R65). -/
def UnitRec.beginRestAt (u : UnitRec) (b : District) : UnitRec :=
  { u.beginRest with commandedBay := b, selCmd := some b }

/-- The departure test of a unit in OFFLINE (R43). -/
def UnitRec.departureTest (u : UnitRec) (now : Second) : UnitEffect :=
  if u.avail && u.cfg.enable && !u.atSpeed then
    match selBay u.selPos with
    | some b => { unit := u.beginRestAt b }
    | none => u.trip now .selector
  else { unit := u }

/-- Enter OFFLINE from service (R44, R45, R47, R53): the credit is closed, RUNREQ removed, the timers cleared,
UNIT_OFFLINE posted; a pending configuration comes into force, and one with enable yes brings the departure test (R84). -/
def UnitRec.goOffline (u : UnitRec) (now : Second) : UnitEffect :=
  let r := u.closeCredit now
  let u1 := { r.1.clearTimers with state := .offline, runReq := false }
  match u1.pendingCfg with
  | none => { unit := u1, credit := r.2, wentOffline := true }
  | some c =>
    let u2 := u1.adoptPending
    let e := if c.enable then u2.departureTest now else { unit := u2 }
    { e with credit := r.2, wentOffline := true }

/-- Enter IDLE (R56, R58): a pending configuration comes into force, and one with enable no takes the unit on to OFFLINE
(R47, R84). -/
def UnitRec.beginIdle (u : UnitRec) (now : Second) : UnitEffect :=
  let u1 := { u.clearTimers with state := .idle }
  match u1.pendingCfg with
  | none => { unit := u1 }
  | some c => if c.enable then { unit := u1.adoptPending } else u1.adoptPending.goOffline now

/-! ### Commands of the Dispatcher and of the River Block -/

/-- A stop command with its reason (R52); it has no effect outside STARTING and RUNNING. -/
def UnitRec.stop (u : UnitRec) (now : Second) (why : StopReason) : UnitEffect :=
  if u.commanded then
    let r := u.closeCredit now
    { unit :=
        { r.1 with
          state := .stopping, runReq := false, runHold := .zero, stateTimer := loadTimer u.cfg.stopTimeout
          stopReason := some why }
      credit := r.2 }
  else { unit := u }

/-- A start command is taken when the unit is IDLE, closure is not in force and the start history is below max starts
(R48, R81). -/
def UnitRec.canStart (u : UnitRec) (closed : Bool) : Bool :=
  u.state = .idle && !closed && u.history.length < u.cfg.maxStarts

/-- A start command (R48); discarded where it cannot be taken. -/
def UnitRec.start (u : UnitRec) (now : Second) (closed : Bool) : UnitRec :=
  if u.canStart closed then
    { u with
      state := .starting, runReq := true, stateTimer := loadTimer u.cfg.startTimeout, history := u.history ++ [now] }
  else u

/-- The switch ends: RESTING with the rest it had, or IDLE (R58). -/
def UnitRec.endSwitch (u : UnitRec) (now : Second) : UnitEffect :=
  if u.rest.left = 0 then u.beginIdle now else { unit := { u with state := .resting, stateTimer := .zero } }

/-- A switch command with its target (R57); it ends at once when the selector stands there (R58), and is discarded
where it cannot be taken. -/
def UnitRec.switch (u : UnitRec) (now : Second) (target : District) : UnitEffect :=
  if (u.state = .idle || u.state = .resting) && u.cfg.reach.get target then
    let u1 :=
      { u with
        state := .switching, commandedBay := target, selCmd := some target
        stateTimer := loadTimer u.cfg.travelTimeout }
    if u1.selectorAt target then u1.endSwitch now else { unit := u1 }
  else { unit := u }

/-! ### Lines -/

/-- The end of a stop, by the lines and the configuration in force (R53). -/
def UnitRec.endStop (u : UnitRec) (now : Second) : UnitEffect :=
  if u.avail && u.cfg.enable then
    if u.selectorAt u.commandedBay then { unit := u.beginRest } else u.trip now .selector
  else u.goOffline now

/-- A rise of AVAIL (R43, R46). -/
def UnitRec.availRise (u : UnitRec) (now : Second) : UnitEffect :=
  let u1 := { u with avail := true }
  match u.state with
  | .offline => u1.departureTest now
  | .idle => { unit := u1 }
  | .resting => { unit := u1 }
  | .switching => { unit := u1 }
  | .starting => { unit := u1 }
  | .running => { unit := u1 }
  | .stopping => { unit := u1 }
  | .tripped => { unit := u1 }

/-- A fall of AVAIL (R44, R45, R46). -/
def UnitRec.availFall (u : UnitRec) (now : Second) : UnitEffect :=
  let u1 := { u with avail := false }
  match u.state with
  | .idle => u1.goOffline now
  | .resting => u1.goOffline now
  | .switching => u1.goOffline now
  | .starting => u1.goOffline now
  | .running => u1.goOffline now
  | .offline => { unit := u1 }
  | .stopping => { unit := u1 }
  | .tripped => { unit := u1 }

/-- A rise of ATSPEED (R49, R55, R63, R64, R66). -/
def UnitRec.atSpeedRise (u : UnitRec) (now : Second) : UnitEffect :=
  let u1 := { u with atSpeed := true }
  match u.state with
  | .starting =>
    { unit :=
        { u1 with state := .running, creditMark := now, runHold := loadTimer u.cfg.minRun, stateTimer := .zero } }
  | .idle => u1.trip now .uncommandedRun
  | .resting => u1.trip now .uncommandedRun
  | .switching => u1.trip now .uncommandedRun
  | .running => { unit := u1 }
  | .stopping => { unit := u1 }
  | .offline => { unit := u1 }
  | .tripped => { unit := u1 }

/-- A fall of ATSPEED (R43, R51, R53, R64). -/
def UnitRec.atSpeedFall (u : UnitRec) (now : Second) : UnitEffect :=
  let u1 := { u with atSpeed := false }
  match u.state with
  | .running => u1.trip now .lostRun
  | .stopping => u1.endStop now
  | .offline => u1.departureTest now
  | .idle => { unit := u1 }
  | .resting => { unit := u1 }
  | .switching => { unit := u1 }
  | .starting => { unit := u1 }
  | .tripped => { unit := u1 }

/-- Selector supervision: SELPOS away from the commanded bay trips the unit (R61). -/
def UnitRec.supervise (u : UnitRec) (now : Second) : UnitEffect :=
  if u.selectorAt u.commandedBay then { unit := u } else u.trip now .selector

/-- A change of SELPOS (R40, R43, R58, R61, R64). -/
def UnitRec.selPosChange (u : UnitRec) (now : Second) (pos : Fin 4) : UnitEffect :=
  let u1 := { u with selPos := pos }
  match u.state with
  | .offline => u1.departureTest now
  | .switching => if u1.selectorAt u1.commandedBay then u1.endSwitch now else { unit := u1 }
  | .tripped => { unit := u1 }
  | .idle => u1.supervise now
  | .resting => u1.supervise now
  | .starting => u1.supervise now
  | .running => u1.supervise now
  | .stopping => u1.supervise now

/-! ### Expiries (R72), each only where it is due -/

/-- Run-hold expires: the unit becomes hold-expired (R73). -/
def UnitRec.runHoldExpiry (u : UnitRec) : UnitEffect :=
  if u.runHold.due then { unit := { u with runHold := .zero } } else { unit := u }

/-- Rest expires: a RESTING unit enters IDLE (R56), a SWITCHING one stays (R60). -/
def UnitRec.restExpiry (u : UnitRec) (now : Second) : UnitEffect :=
  if u.rest.due then
    let u1 := { u with rest := .zero }
    if u.state = .resting then u1.beginIdle now else { unit := u1 }
  else { unit := u }

/-- The start timeout expires (R50). -/
def UnitRec.startTimeoutExpiry (u : UnitRec) (now : Second) : UnitEffect :=
  if u.stateTimer.due && u.state = .starting then u.trip now .startTimeout else { unit := u }

/-- The stop timeout expires: the stop ends with ATSPEED low, the unit trips with ATSPEED high (R54). -/
def UnitRec.stopTimeoutExpiry (u : UnitRec) (now : Second) : UnitEffect :=
  if u.stateTimer.due && u.state = .stopping then
    if u.atSpeed then u.trip now .stopTimeout else u.endStop now
  else { unit := u }

/-- The travel timeout expires (R59). -/
def UnitRec.travelTimeoutExpiry (u : UnitRec) (now : Second) : UnitEffect :=
  if u.stateTimer.due && u.state = .switching then u.trip now .travelTimeout else { unit := u }

/-- The oldest history entry leaves when its age has reached 3,600 s (R80). -/
def UnitRec.ageHistory (u : UnitRec) (now : Second) : UnitRec :=
  match u.history with
  | [] => u
  | t :: ts => if 3600 ≤ elapsed now t then { u with history := ts } else u

/-! ### CLEAR TRIP and configuration -/

/-- CLEAR TRIP at a unit (R65): the record after it, and whether it is answered OK (else NOT_CLEARABLE). -/
def UnitRec.clearTrip (u : UnitRec) (from_ : PortId) : UnitRec × Bool :=
  if u.state = .tripped then
    if u.atSpeed then (u, false)
    else
      match selBay u.selPos with
      | none => (u, false)
      | some b =>
        if u.avail && u.cfg.enable then ({ u.beginRestAt b with clearedBy := some from_ }, true)
        else ({ u with state := .offline, tripReason := none, clearedBy := some from_ }, true)
  else (u, true)

/-- The Configuration Store hands over a unit configuration (R47, R83, R84). -/
def UnitRec.configure (u : UnitRec) (now : Second) (c : UnitConfig) : UnitEffect :=
  match u.state with
  | .offline =>
    let u1 := { u with cfg := c }
    if c.enable then u1.departureTest now else { unit := u1 }
  | .idle =>
    let u1 := { u with cfg := c }
    if c.enable then { unit := u1 } else u1.goOffline now
  | .tripped => { unit := { u with cfg := c } }
  | .resting => { unit := { u with pendingCfg := some c } }
  | .switching => { unit := { u with pendingCfg := some c } }
  | .starting => { unit := { u with pendingCfg := some c } }
  | .running => { unit := { u with pendingCfg := some c } }
  | .stopping => { unit := { u with pendingCfg := some c } }

/-! ### Latching -/

/-- The latched status entry of a unit (R182). -/
def UnitRec.statusEntry (u : UnitRec) : StatusEntry :=
  { state := u.state, tripReason := u.tripReason, selPos := u.selPos, commandedBay := u.commandedBay,
    estimate := u.estimate, configPending := u.configPending }

/-- The latched timers entry of a unit (R82, R182). -/
def UnitRec.timersEntry (u : UnitRec) (now : Second) : TimersEntry :=
  { runHold := u.runHold.left, rest := u.rest.left, stateTimer := u.stateTimer.left,
    historyLength := u.history.length, oldestAge := u.oldestAge now }

/-! ### On the part -/

/-- Send a credit, if there is one, to its Order Queue. -/
def State.sendCredit (s : State) : Option (District × Nat) → State
  | none => s
  | some (d, c) => s.creditQueue d c

/-- Carry out an event of unit `i`: the record, the credit, UNIT_OFFLINE (R68), UNIT_TRIP and its request (R62). -/
def State.applyUnit (s : State) (i : UnitId) (e : UnitEffect) : State :=
  (((s.setUnit i e.unit).sendCredit e.credit).onlyIf e.wentOffline fun s => s.postAll .unitOffline).onlyIf e.tripped
    fun s => (s.postAll .unitTrip).requestEvaluation

/-- Send a stop to unit `i`. -/
def State.stopUnit (s : State) (why : StopReason) (i : UnitId) : State :=
  s.applyUnit i ((s.units.get i).stop s.clock why)

end Sys2Proof.Machine
end

