-- ==== Sys2Proof/Machine/RiverBlock.lean ====
section
/-! DEFINITION. The River Block (chapter 6 and section 1.9): the stage, the silence of the river gateway and the cap
status, closure, and the changeover filter of the power profile. -/

namespace Sys2Proof.Machine

/-! ### Stage (R19, R20) -/

/-- A stage report taken (R19). -/
def River.report (r : River) (v : Int) : River := { r with stage := some v, stageAge := 0 }

/-- The stage's part of a second mark, but for an ageing at which freshness falls (R20). -/
def River.tickStage (r : River) : River :=
  if r.stage.isNone then r
  else if fallAge (r.stageAge + 1) then { r with stageDue := true }
  else { r with stageAge := nextAge r.stageAge }

/-- The ageing of the stage at this mark, where it is due; the second component: STAGE_AGED is posted (R20). -/
def River.takeStageAgeing (r : River) : River × Bool :=
  if !r.stageDue then (r, false)
  else if r.stage.isNone then ({ r with stageDue := false }, false)
  else
    let r1 := { r with stageAge := nextAge r.stageAge, stageDue := false }
    (r1, fallAge r1.stageAge)

/-- STAGE_FRESHNESS_FALL on the part. -/
def State.ageStage (s : State) : State :=
  let r := s.river.takeStageAgeing
  (s.setRiver r.1).onlyIf r.2 fun s => s.postTo .river .stageAged

/-! ### Silence, cap status and cap (R112 to R116) -/

/-- A valid river frame: the silence restarts, and a HELD or FALLBACK status becomes LIVE with CAP_CHANGED (R112, R114). -/
def State.hearRiver (s : State) : State :=
  (s.setRiver { s.river with silence := 0, capStatus := .live }).onlyIf (s.river.capStatus != .live)
    fun s => s.postAll .capChanged

/-- The judging at silence age `n` would change the status or be the fallback event (R113). -/
def River.judged (r : River) (n : Nat) : Bool := (n = 120 && r.capStatus = .live) || n = 720

/-- The silence's part of a second mark, but for a judging that has an effect (R112, R113). -/
def River.tickSilence (r : River) : River :=
  if r.judged (r.silence + 1) then { r with silenceDue := true } else { r with silence := nextAge r.silence }

/-- Closure ends: the record, the queues and CLOSURE_CHANGED (R119 steps 1 to 3, R120). -/
def State.endClosure (s : State) : State :=
  ((s.setRiver { s.river with closure := none }).settleQueues).postAll .closureChanged

/-- The fallback event (R113, R120): FALLBACK, the cap at most the fallback cap, CAP_CHANGED if the status or the cap
changed, and the end of a RESET closure. -/
def State.fallback (s : State) : State :=
  let cap := min s.river.cap s.station.fallbackCap
  let changed := s.river.capStatus != .fallback || s.river.cap != cap
  ((s.setRiver { s.river with cap := cap, capStatus := .fallback }).onlyIf changed
    fun s => s.postAll .capChanged).onlyIf (s.river.closure = some .reset) State.endClosure

/-- The silence at this mark is judged, where that is due (R113). A frame taken since the mark was reached has set the age to
0, and then the mark raises it to 1 and nothing follows (R114). -/
def State.judgeSilence (s : State) : State :=
  if s.river.silenceDue then
    let n := nextAge s.river.silence
    let s1 := s.setRiver { s.river with silence := n, silenceDue := false }
    if n = 720 then s1.fallback
    else if n = 120 && s.river.capStatus = .live then
      (s1.setRiver { s1.river with capStatus := .held }).postAll .capChanged
    else s1
  else s

/-- SET CAP taken (R115), after the restart that every valid river frame brings. -/
def State.setCap (s : State) (v : Nat) : State :=
  ((s.setRiver { s.river with cap := v, capStatus := .live }).postAll .capChanged).requestEvaluation

/-- The station items taken over by the River Block (R21, R116, R122): in FALLBACK a lower fallback cap lowers the cap. -/
def State.configureStation (s : State) (c : StationConfig) : State :=
  let s1 := { s with station := c }
  if s.river.capStatus = .fallback then
    (s1.setRiver { s1.river with cap := min s.river.cap c.fallbackCap }).onlyIf (c.fallbackCap < s.river.cap)
      fun s => s.postAll .capChanged
  else s1

/-! ### Closure (R117 to R120) -/

/-- CLOSE STATION (R118): the record, the queues, the eight stops in ascending number (log entry 10), CLOSURE_CHANGED. -/
def State.closeStation (s : State) : State :=
  match s.river.closure with
  | none =>
    let s1 := (s.setRiver { s.river with closure := some .commanded }).settleQueues
    (unitIds.foldl (fun s i => s.stopUnit .closure i) s1).postAll .closureChanged
  | some .reset => (s.setRiver { s.river with closure := some .commanded }).postAll .closureChanged
  | some .commanded => s

/-- LIFT CLOSURE (R119). -/
def State.liftClosure (s : State) : State :=
  match s.river.closure with
  | none => s
  | some _ => s.endClosure.requestEvaluation

/-! ### Power profile (R121) -/

/-- A change of the PSEL lines (R121). -/
def River.pselChange (r : River) (code : Fin 4) : River := { r with pselSeen := code, pselAge := 0 }

/-- The changeover filter's part of a second mark, but for a code that comes into force (R121). -/
def River.tickProfile (r : River) : River :=
  if r.pselSeen = r.profile then { r with pselAge := 0 }
  else if 2 ≤ r.pselAge + 1 then { r with profileDue := true }
  else { r with pselAge := r.pselAge + 1 }

/-- The filter step of this mark, where it is due; the second component: a profile came into force (R121). -/
def River.takeProfile (r : River) : River × Bool :=
  if !r.profileDue then (r, false)
  else if r.pselSeen = r.profile then ({ r with pselAge := 0, profileDue := false }, false)
  else if 2 ≤ r.pselAge + 1 then ({ r with profile := r.pselSeen, pselAge := 0, profileDue := false }, true)
  else ({ r with pselAge := r.pselAge + 1, profileDue := false }, false)

/-- PROFILE_COMES_INTO_FORCE on the part: a profile that comes into force requests a re-evaluation (R121). -/
def State.filterProfile (s : State) : State :=
  let r := s.river.takeProfile
  (s.setRiver r.1).onlyIf r.2 State.requestEvaluation

end Sys2Proof.Machine
end

