-- ==== Sys2Proof/Machine/Evaluation.lean ====
section
/-! DEFINITION. The dispatch evaluation (chapter 7): the station sums, the entitlements, the eight stages and the
entitlement table. Sums, uses and deficits are read from the unit records whenever a stage judges them: a stop moves a unit's
estimate from commanded to run-down and a start adds it, which is what R128 and R132 keep by hand. -/

namespace Sys2Proof.Machine

/-! ### Choosing one of several -/

/-- The first element that no other is strictly better than: ties go to the earlier. -/
def bestOf {α : Type} (better : α → α → Bool) : List α → Option α
  | [] => none
  | x :: xs =>
    match bestOf better xs with
    | none => some x
    | some y => if better y x then some y else some x

/-- The element with the largest key, ties to the earlier. -/
def largest {α : Type} (key : α → Int) (xs : List α) : Option α := bestOf (fun a b => key b < key a) xs

/-- Put `x` into a sorted list before the first element it does not come strictly after. -/
def insertBy {α : Type} (before : α → α → Bool) (x : α) : List α → List α
  | [] => [x]
  | y :: ys => if before y x then y :: insertBy before x ys else x :: y :: ys

/-- Sort by a strict order, equal elements in their given order. -/
def sortBy {α : Type} (before : α → α → Bool) : List α → List α
  | [] => []
  | x :: xs => insertBy before x (sortBy before xs)

/-! ### Station sums and uses (R128, R132) -/

/-- Sum over the units in ascending number. -/
def sumUnits (us : Oct UnitRec) (f : UnitRec → Nat) : Nat := (unitIds.map fun i => f (us.get i)).sum

def State.commandedDischarge (s : State) : Nat := sumUnits s.units fun u => if u.commanded then u.estimate else 0
def State.uncommandedDischarge (s : State) : Nat := sumUnits s.units fun u => if u.uncommanded then u.estimate else 0
def State.rundownDischarge (s : State) : Nat := sumUnits s.units fun u => if u.state = .stopping then u.estimate else 0
def State.committedPower (s : State) : Nat := sumUnits s.units fun u => if u.drawsPower then s.ratedPower u else 0
def State.rundownPower (s : State) : Nat := sumUnits s.units fun u => if u.state = .stopping then s.ratedPower u else 0

/-- The cap less commanded, uncommanded and run-down discharge; signed (R128). -/
def State.freeCapacity (s : State) : Int :=
  (s.river.cap : Int) - (s.commandedDischarge : Int) - (s.uncommandedDischarge : Int) - (s.rundownDischarge : Int)

/-- The six sums of R128. -/
def State.stationSums (s : State) : Sums :=
  { commanded := s.commandedDischarge, uncommanded := s.uncommandedDischarge, rundown := s.rundownDischarge,
    free := s.freeCapacity, committedPower := s.committedPower, rundownPower := s.rundownPower }

/-- Use of a district (R132). -/
def State.use (s : State) (d : District) : Nat :=
  sumUnits s.units fun u => if u.commanded && u.commandedBay = d then u.estimate else 0

/-- Some unit is in STARTING or RUNNING. -/
def State.anyCommanded (s : State) : Bool := unitIds.any fun i => (s.units.get i).commanded

/-! ### Demand, urgency, entitlement (R130, R131) -/

/-- What stage 3 judges of a district: its urgency, absent when it is not demanding, its effective weight and its
entitlement. -/
structure Share where
  urgency     : Option Urgency
  weight      : Nat
  entitlement : Nat
deriving DecidableEq, Repr

/-- The district is demanding. -/
def Share.demanding (h : Share) : Bool := h.urgency.isSome

/-- Urgency multiplier (R131). -/
def Urgency.multiplier : Urgency → Nat
  | .routine => 1
  | .high => 2
  | .emergency => 4

/-- The urgency a district demands at, absent when it is not demanding (R130); `call` is its queue call. -/
def State.demand (s : State) (call : Option Urgency) (d : District) : Option Urgency :=
  let b := s.bays.get d
  if s.closed || b.lowSuction then none else if b.floatDemand then some .emergency else call

/-- Effective weight (R131). -/
def State.effectiveWeight (s : State) (demand : Tri (Option Urgency)) (d : District) : Nat :=
  match demand.get d with
  | none => 0
  | some u => (s.bays.get d).cfg.weight * u.multiplier

/-- The entitlements stage (R130, R131): shares from the demand as read when the evaluation was taken. -/
def State.shares (s : State) (demand : Tri (Option Urgency)) : Tri Share :=
  let total := (districts.map (s.effectiveWeight demand)).sum
  Tri.ofFn fun d =>
    let w := s.effectiveWeight demand d
    { urgency := demand.get d, weight := w, entitlement := if (demand.get d).isSome then s.river.cap * w / total else 0 }

/-- Entitlement of a district. -/
def entitlementOf (h : Tri Share) (d : District) : Nat := (h.get d).entitlement

/-- Deficit E − U of a district, as the uses stand (R132). -/
def State.deficit (s : State) (h : Tri Share) (d : District) : Int := (entitlementOf h d : Int) - (s.use d : Int)

/-- U − E of a district. -/
def State.excess (s : State) (h : Tri Share) (d : District) : Int := -(s.deficit h d)

/-! ### Stage 1: estimates (R128, R31, R33) -/

/-- Hand each unit its new estimate, in ascending number, a RUNNING unit crediting first. -/
def State.stageEstimates (s : State) : State :=
  unitIds.foldl (fun s i => s.applyUnit i ((s.units.get i).takeEstimate s.clock (s.newEstimate (s.units.get i)))) s

/-! ### Stage 2: protective stops (R129) -/

/-- The HEAD condition at the commanded bay, on the current estimate (R35). -/
def State.meetsHead (s : State) (u : UnitRec) : Bool := u.estimate < (s.classOfUnit u).qMin

def State.protectUnit (s : State) (i : UnitId) : State :=
  let u := s.units.get i
  if u.commanded then
    if s.meetsHead u then s.stopUnit .head i
    else if (s.bays.get u.commandedBay).lowSuction then s.stopUnit .suction i
    else s
  else s

def State.stageProtective (s : State) : State := unitIds.foldl State.protectUnit s

/-! ### Stage 4: shed (R133 to R135) -/

/-- The district has a unit in STARTING or RUNNING. -/
def State.hasCommanded (s : State) (d : District) : Bool :=
  unitIds.any fun i => (s.units.get i).commanded && (s.units.get i).commandedBay = d

/-- The shed district (R133). -/
def State.shedDistrict (s : State) (h : Tri Share) : Option District :=
  largest (s.excess h) (districts.filter s.hasCommanded)

/-- The unit to shed in the shed district: the largest by `key`, ties to the lower number (R133). -/
def State.shedUnit (s : State) (h : Tri Share) (key : UnitRec → Nat) : Option UnitId :=
  match s.shedDistrict h with
  | none => none
  | some d =>
    largest (fun i => (key (s.units.get i) : Int))
      (unitIds.filter fun i => (s.units.get i).commanded && (s.units.get i).commandedBay = d)

/-- While `exceeds` holds and some unit is in STARTING or RUNNING, one stop more. Eight stops leave no unit to stop. -/
def State.shedLoop (h : Tri Share) (why : StopReason) (exceeds : State → Bool) (key : State → UnitRec → Nat) :
    Nat → State → State
  | 0, s => s
  | n + 1, s =>
    if exceeds s then
      match s.shedUnit h (key s) with
      | none => s
      | some i => State.shedLoop h why exceeds key n (s.stopUnit why i)
    else s

/-- Committed power less run-down power exceeds the budget (R134). -/
def State.overBudget (s : State) : Bool := !withinBudget s.budget (s.committedPower - s.rundownPower)

/-- Commanded plus uncommanded discharge exceeds the cap (R135). -/
def State.overCap (s : State) : Bool := s.river.cap < s.commandedDischarge + s.uncommandedDischarge

/-- The power half and then the cap half. -/
def State.stageShed (h : Tri Share) (s : State) : State :=
  State.shedLoop h .shedCap State.overCap (fun _ u => u.estimate) 8
    (State.shedLoop h .shedPower State.overBudget State.ratedPower 8 s)

/-! ### Stage 5: demand stops (R136) -/

def State.demandStopUnit (h : Tri Share) (s : State) (i : UnitId) : State :=
  let u := s.units.get i
  if !(h.get u.commandedBay).demanding && (u.state = .starting || u.holdExpired) then s.stopUnit .noDemand i else s

def State.stageDemand (h : Tri Share) (s : State) : State := unitIds.foldl (State.demandStopUnit h) s

/-! ### Candidates (R137) -/

/-- Conditions 1 to 4 of R137 for district `d`. -/
def State.ready (s : State) (d : District) (i : UnitId) : Bool :=
  let u := s.units.get i
  u.state = .idle && u.avail && u.commandedBay = d && u.selectorAt u.commandedBay
    && u.history.length < u.cfg.maxStarts && !s.meetsHead u

/-- Condition 6: the first-unit rule. -/
def State.fitsShare (s : State) (h : Tri Share) (d : District) (i : UnitId) : Bool :=
  (s.units.get i).estimate + s.use d ≤ entitlementOf h d || s.use d = 0

/-- Conditions 5 and 7: the budget and the free capacity. -/
def State.fitsStation (s : State) (i : UnitId) : Bool :=
  let u := s.units.get i
  withinBudget s.budget (s.committedPower + s.ratedPower u) && (u.estimate : Int) ≤ s.freeCapacity

/-- The unit is a candidate for the district (R137). -/
def State.candidate (s : State) (h : Tri Share) (d : District) (i : UnitId) : Bool :=
  (h.get d).demanding && s.ready d i && s.fitsShare h d i && s.fitsStation i

/-- The candidates of a district, in ascending number. -/
def State.candidates (s : State) (h : Tri Share) (d : District) : List UnitId := unitIds.filter (s.candidate h d)

/-! ### Stage 6: rebalance (R138, R139) -/

/-- The district is starved (R138). -/
def State.starved (s : State) (h : Tri Share) (d : District) : Bool :=
  (h.get d).demanding && 0 < s.deficit h d && (s.candidates h d).isEmpty
    && unitIds.any fun i => s.ready d i && s.fitsShare h d i

/-- The donor's units: hold-expired RUNNING units of the district. -/
def State.expiredUnits (s : State) (d : District) : List UnitId :=
  unitIds.filter fun i => (s.units.get i).holdExpired && (s.units.get i).commandedBay = d

/-- The donor (R139). -/
def State.donor (s : State) (h : Tri Share) : Option District :=
  largest (s.excess h) (districts.filter fun d => 0 < s.excess h d && !(s.expiredUnits d).isEmpty)

/-- One REBALANCE stop at most (R139); `hungry` are the starved flags of R138. -/
def State.stageRebalance (h : Tri Share) (hungry : Tri Bool) (s : State) : State :=
  if districts.any hungry.get then
    match s.donor h with
    | none => s
    | some d =>
      match largest (fun i => ((s.units.get i).estimate : Int)) (s.expiredUnits d) with
      | none => s
      | some i => s.stopUnit .rebalance i
  else s

/-! ### Stage 7: the start slot (R140) -/

/-- The slot is open (R140). -/
def State.slotOpen (s : State) : Bool :=
  match s.disp.lastStart with
  | none => true
  | some t => s.spacing ≤ elapsed s.clock t

/-- Rank of an urgency in dispatch priority; an absent one ranks last. -/
def urgencyRank : Option Urgency → Nat
  | none => 0
  | some .routine => 1
  | some .high => 2
  | some .emergency => 3

/-- District `a` comes strictly before `b` in dispatch priority, by urgency and then by the larger deficit (R140); the
number decides what is left, by the order of the list. -/
def State.before (s : State) (h : Tri Share) (a b : District) : Bool :=
  let ra := urgencyRank (h.get a).urgency
  let rb := urgencyRank (h.get b).urgency
  rb < ra || (ra = rb && s.deficit h b < s.deficit h a)

/-- The best candidate of a district (R140 step 2). -/
def State.bestCandidate (s : State) (h : Tri Share) (d : District) : Option UnitId :=
  largest (fun i => ((s.units.get i).estimate : Int)) (s.candidates h d)

/-- The district that wins the slot (R140 step 3). -/
def State.slotWinner (s : State) (h : Tri Share) : Option District :=
  bestOf (s.before h) (districts.filter fun d => !(s.candidates h d).isEmpty)

/-- Send a start to unit `i`; a start the unit takes becomes the last station start (R48, R140). -/
def State.sendStart (s : State) (i : UnitId) : State :=
  let u := s.units.get i
  if u.canStart s.closed then
    (s.setUnit i (u.start s.clock s.closed)).setDisp { s.disp with lastStart := some s.clock }
  else s

/-- One start at most. -/
def State.stageStart (h : Tri Share) (s : State) : State :=
  if s.slotOpen then
    match s.slotWinner h with
    | none => s
    | some d =>
      match s.bestCandidate h d with
      | none => s
      | some i => s.sendStart i
  else s

/-! ### Stage 8: the switch (R142, R143) -/

/-- Unit `i` may be switched to bay `t` (R143). -/
def State.switchable (s : State) (h : Tri Share) (t : District) (i : UnitId) : Bool :=
  let u := s.units.get i
  (u.state = .idle || u.state = .resting) && u.avail && u.cfg.reach.get t && !(h.get u.commandedBay).demanding
    && !u.configPending && (s.classOfUnit u).qMin ≤ s.estimateAt u.cfg.cls t

/-- The unit to switch to bay `t`: the largest estimate there, ties to the lower number (R143). -/
def State.unitToSwitch (s : State) (h : Tri Share) (t : District) : Option UnitId :=
  largest (fun i => (s.estimateAt (s.units.get i).cfg.cls t : Int)) (unitIds.filter (s.switchable h t))

/-- The districts considered, in dispatch priority (R142); `served` says which had a candidate in stage 7. -/
def State.considered (s : State) (h : Tri Share) (served : Tri Bool) : List District :=
  sortBy (s.before h)
    (districts.filter fun d => (h.get d).demanding && 0 < s.deficit h d && !served.get d)

/-- Switch to the first considered district that yields a unit. -/
def State.switchFirst (s : State) (h : Tri Share) : List District → State
  | [] => s
  | t :: ts =>
    match s.unitToSwitch h t with
    | some i => s.applyUnit i ((s.units.get i).switch s.clock t)
    | none => s.switchFirst h ts

/-- One switch at most. -/
def State.stageSwitch (h : Tri Share) (served : Tri Bool) (s : State) : State :=
  s.switchFirst h (s.considered h served)

/-! ### The evaluation as a whole (R125, R145, R155) -/

/-- Row of the entitlement table as the last stage leaves it (R145). -/
def State.tableRow (s : State) (h : Tri Share) (hungry : Tri Bool) (d : District) : Row :=
  { demanding := (h.get d).demanding, urgency := (h.get d).urgency, weight := (h.get d).weight,
    entitlement := entitlementOf h d, use := s.use d, deficit := s.deficit h d, starved := hungry.get d }

/-- What the Dispatcher keeps at the end of an evaluation (R124, R145); the request is cleared (R126). -/
def State.record (h : Tri Share) (hungry : Tri Bool) (s : State) : State :=
  s.setDisp
    { s.disp with
      request := false, evalDue := false
      table := Tri.ofFn (s.tableRow h hungry)
      lastEval := some s.clock
      sums := s.stationSums
      capUsed := s.river.cap
      budgetUsed := s.budget }

/-- The queue calls and demands as they stand when the evaluation is taken, before its credits (R100, R130, R155). -/
def State.demands (s : State) : Tri (Option Urgency) := Tri.ofFn fun d => s.demand (s.queues.get d).call d

/-- Stages 4 to 8 and the record, from the shares of stage 3. -/
def State.stagesAfterShares (h : Tri Share) (s : State) : State :=
  let s5 := State.stageDemand h (State.stageShed h s)
  let hungry : Tri Bool := Tri.ofFn (s5.starved h)
  let s6 := State.stageRebalance h hungry s5
  let served : Tri Bool := Tri.ofFn fun d => !(s6.candidates h d).isEmpty
  State.record h hungry (State.stageSwitch h served (State.stageStart h s6))

/-- The dispatch evaluation: its eight stages in one operation (R125). -/
def State.evaluate (s : State) : State :=
  let s2 := s.stageEstimates.stageProtective
  State.stagesAfterShares (s2.shares s.demands) s2

/-- An evaluation that this mark owes is taken (R125); one that it does not owe is not. -/
def State.evaluateIfDue (s : State) : State := if s.disp.evalDue then s.evaluate else s

end Sys2Proof.Machine
end

