-- ==== Sys2Proof/Machine/ConfigStore.lean ====
section
/-! DEFINITION. The Configuration Store (chapter 11): the working configuration gathered and loaded, the commit, and the
resets (R18, R22, R37, R69, R70, R110, R123, R147, R160, R184, R189, R190). -/

namespace Sys2Proof.Machine

/-! ### The working configuration (R185) -/

/-- The working configuration as it stands: every unit's configuration in force and no pending one (R85). -/
def State.working (s : State) : WorkingConfig :=
  { curves := s.curves
    units := s.units.map UnitRec.cfg
    bays := s.bays.map Bay.cfg
    station := s.station }

/-- The working configuration becomes `w`. -/
def State.install (s : State) (w : WorkingConfig) : State :=
  { s with
    curves := w.curves
    station := w.station
    units := Oct.ofFn fun i => { s.units.get i with cfg := w.units.get i }
    bays := Tri.ofFn fun d => { s.bays.get d with cfg := w.bays.get d } }

/-! ### Commits (R188) -/

/-- A commit taken: the copy, and the stored image being written over, so that a reset that cuts the write finds an image
that fails its check. -/
def State.beginCommit (s : State) : State :=
  s.setStore
    { s.store with image := .failing, commit := some { copy := s.working, marksLeft := 3, due := false } }

/-- The commit's part of a second mark; the third makes its end due. -/
def Store.tick (x : Store) : Store :=
  match x.commit with
  | none => x
  | some c =>
    if c.marksLeft ≤ 1 then { x with commit := some { c with due := true } }
    else { x with commit := some { c with marksLeft := c.marksLeft - 1 } }

/-- The end of a commit, where it is due, with the outcome of the read-back. -/
def State.endCommit (s : State) (equal : Bool) : State :=
  match s.store.commit with
  | none => s
  | some c =>
    if !c.due then s
    else if equal then
      (s.setStore { image := .passing c.copy, commit := none, defaulted := false }).postAll .commitDone
    else (s.setStore { s.store with image := .failing, commit := none }).postAll .commitFailed

/-- The end of a commit is due at this mark. -/
def State.commitDue (s : State) : Bool :=
  match s.store.commit with
  | none => false
  | some c => c.due

/-- The end of a commit that the queue did not name: the read-back is a free value (log entry 9). -/
def State.endCommitFreely (s : State) : State :=
  if s.commitDue then
    State.endCommit { s with freeDraws := s.freeDraws + 1 } (Config.readBackEqual s.freeDraws)
  else s

/-! ### Resets -/

/-- The lowest-numbered bay of a reach. -/
def lowestBay (r : Tri Bool) : District := if r.a0 then 0 else if r.a1 then 1 else 2

/-- The unit record after a reset (R69, R70), from its lines and its configuration in force; `q` is the uncommanded
estimate under the heads of R37. -/
def UnitRec.afterReset (u : UnitRec) (q : Nat) : UnitRec :=
  let bay := (selBay u.selPos).getD (lowestBay u.cfg.reach)
  let base : UnitRec :=
    { u with
      state := .offline, tripReason := none, stopReason := none, commandedBay := bay, runReq := false
      selCmd := some bay, estimate := 0, creditMark := 0, runHold := .zero, rest := .zero, stateTimer := .zero
      history := [], pendingCfg := none, clearedBy := none }
  if u.atSpeed then { base with state := .stopping, estimate := q, stateTimer := loadTimer u.cfg.stopTimeout }
  else if u.avail && u.cfg.enable then
    match selBay u.selPos with
    | some _ => { base with state := .resting, rest := loadTimer u.cfg.minRest }
    | none => { base with state := .tripped, tripReason := some .selector }
  else base

/-- The river record after a reset (R22, R123), with its PSEL lines as they stand. -/
def River.afterReset (r : River) (c : StationConfig) : River :=
  { stage := none, stageAge := 0, stageDue := false, cap := c.fallbackCap, capStatus := .fallback, silence := 0,
    silenceDue := false, closure := some .reset, pselSeen := r.pselSeen, pselAge := 0, profileDue := false,
    profile := r.pselSeen }

/-- Every block but the Configuration Store takes its state after reset, from its lines and from the working configuration as
they stand (R189, R190). The heads of R37 are those of the bay and river records after the reset. -/
def State.resetBlocks (s : State) : State :=
  let s1 : State :=
    { s with
      clock := 0
      bays := s.bays.map Bay.afterReset
      river := s.river.afterReset s.station
      queues := Tri.ofFn fun _ => resetQueue
      disp := resetDispatcher
      notices := ⟨Tri.ofFn fun _ => resetNoticePort, resetNoticePort⟩
      ports := s.ports.map fun p => resetPort p.selN }
  { s1 with units := s.units.map fun u => u.afterReset (s1.uncommandedEstimate u) }

/-- The load of the stored image (R189): its configuration, or the factory defaults with CONFIG_DEFAULTED set; a commit in
progress is cleared. -/
def State.loadConfig (s : State) : State :=
  match s.store.image with
  | .passing w => (s.install w).setStore { s.store with commit := none, defaulted := false }
  | .failing => (s.install factoryConfig).setStore { s.store with commit := none, defaulted := true }

/-- The end of a power-on or line reset (R189). -/
def State.startUp (s : State) : State := State.resetBlocks (State.loadConfig { s with resetN := true })

/-- Held in reset (R189): every RUNREQ removed, every SELCMD and every attention line released; a commit in progress is
cut (its image has failed its check since the commit was taken). -/
def State.holdInReset (s : State) : State :=
  { s with
    resetN := false
    units := s.units.map fun u => { u with runReq := false, selCmd := none }
    notices := s.notices.map fun n => { n with attn := false } }

/-- Power-on: with RESET_n high the part starts up at once, with RESET_n low it is held until the rise (R189). -/
def State.powerOn (s : State) : State := if s.resetN then s.startUp else s.holdInReset

end Sys2Proof.Machine
end

