-- ==== Sys2Proof/Machine/MarkBlock.lean ====
section
/-! DEFINITION. The second mark (R3, R72, R125): what counts at it at once, what becomes due as an event of its own, and the
taking of what the last mark left due. -/

namespace Sys2Proof.Machine

/-- An evaluation is owed at the mark that brings the clock to `now` (R125). -/
def Dispatcher.owes (x : Dispatcher) (now : Second) : Bool := now.toNat % 10 = 0 || x.request

/-- The counting of one second mark: the clock, the ages and the timers. What an age, a timer, the filter or the commit
reaches at this mark with an effect of its own becomes due, and is taken by its own row (log entry 2). -/
def State.tick (s : State) : State :=
  let now := s.clock + 1
  { s with
    clock := now
    bays := s.bays.map Bay.tick
    river := s.river.tickStage.tickSilence.tickProfile
    units := s.units.map UnitRec.tick
    store := s.store.tick
    disp := { s.disp with evalDue := s.disp.owes now } }

/-- Unit events that carry no more than the record. -/
def State.onUnit (s : State) (i : UnitId) (f : UnitRec → UnitEffect) : State := s.applyUnit i (f (s.units.get i))

/-- The expiries and the history ageing of one unit that are due. -/
def State.takeUnitDue (s : State) (i : UnitId) : State :=
  let s1 := s.onUnit i UnitRec.runHoldExpiry
  let s2 := s1.onUnit i fun u => u.restExpiry s1.clock
  let s3 := s2.onUnit i fun u => u.startTimeoutExpiry s2.clock
  let s4 := s3.onUnit i fun u => u.stopTimeoutExpiry s3.clock
  let s5 := s4.onUnit i fun u => u.travelTimeoutExpiry s4.clock
  s5.setUnit i ((s5.units.get i).ageHistory s5.clock)

/-- Take everything that the last mark left due and the queue did not name, before the next mark: commit, bays, stage, silence,
profile, units, deadlines, and the evaluation last (log entry 3). Where nothing is due this is the state as it is. -/
def State.takeDue (s : State) : State :=
  let s1 := districts.foldl State.ageBay s.endCommitFreely
  let s2 := s1.ageStage.judgeSilence.filterProfile
  let s3 := unitIds.foldl State.takeUnitDue s2
  (districts.foldl State.cutQueue s3).evaluateIfDue

/-- A second mark. -/
def State.secondMark (s : State) : State := s.takeDue.tick

end Sys2Proof.Machine
end

