-- ==== Sys2Proof/Machine/PortInterface.lean ====
section
/-! DEFINITION. The Port Interface (chapter 9): receiving a frame, judging it (R163, R167), answering, and the rise of SEL_n
with its end-of-transaction actions (R105, R166, R169, R180, R183, R190). -/

namespace Sys2Proof.Machine

/-! ### Bytes (R160, R164, R165) -/

/-- FRAME_SHORT shows in byte 0 of the segment. -/
def showsFrameShort (status : Byte × Byte) : Bool := status.1.getLsbD 5

/-- Bytes received in full while RECEIVING (R160): position, command code, frame length and running sum; byte 0 of a segment that
shows FRAME_SHORT has gone out with the first of them (R165). -/
def PortIf.receive (x : PortIf) (bytes : List Byte) : PortIf :=
  match bytes with
  | [] => x
  | first :: _ =>
    { x with
      position := min 65535 (x.position + bytes.length)
      code := some (x.code.getD first)
      frameLength := frameLengthOf (x.code.getD first)
      sum := bytes.foldl (· + ·) x.sum
      frameShort := x.frameShort && !showsFrameShort x.status }

/-- `n` bytes exchanged in full while ANSWERING: only the position counts (R160). -/
def PortIf.exchange (x : PortIf) (n : Nat) : PortIf := { x with position := min 65535 (x.position + n) }

/-- The byte the part sends at a position of the transaction, from 1 (R164); 0 in a transaction that a reset cut (R160), nothing
while SEL_n is high or RESET_n is low (R161, R189). -/
def State.dataOut (s : State) (p : PortId) (pos : Nat) : Option Byte :=
  let x := s.ports.get p
  if x.selN || !s.resetN then none
  else
    match x.phase with
    | .idle => some 0
    | .receiving => some (if pos = 1 then x.status.1 else if pos = 2 then x.status.2 else 0)
    | .answering =>
      some
        (if pos = 1 then x.status.1
         else if pos = 2 then x.status.2
         else if pos ≤ x.frameLength then 0
         else (x.response[pos - x.frameLength - 1]?).getD 0)

/-! ### Judging and taking a frame (R163, R167) -/

/-- What the owning block does with a command: the state after it, the response, and what is left for the rise of SEL_n. -/
structure Reply where
  state    : State
  response : List Byte
  action   : EndAction := .none

/-- A reply of the result code alone. -/
def Reply.code (s : State) (r : Result) : Reply := { state := s, response := [r.byte] }

/-- The judging of a valid frame in the order of R167; `own` is the command's own entry (step 5). -/
def State.judge (s : State) (f : Frame) (own : State → Reply) : Reply :=
  match commandRow f.code with
  | none => .code s .unknownCommand
  | some (role, _) =>
    if !role.allows f.port then .code s .wrongPort
    else if role.needsService && !s.svc then .code s .notInService
    else if role.needsService && s.committing then .code s .busy
    else own s

/-- A valid river frame restarts the silence before it is judged (R112, R114, log entry 12). -/
def State.hear (s : State) (p : PortId) : State := s.onlyIf (p = .river) State.hearRiver

/-- The reply to a complete frame (R163): BAD_CHECK, or the judging. -/
def State.replyTo (s : State) (f : Frame) (own : State → Reply) : Reply :=
  if f.good then (s.hear f.port).judge f own else .code s .badCheck

/-- The port's answer to a frame it has received: ANSWERING with the response built (R160, R164). -/
def Reply.deliver (r : Reply) (f : Frame) : State :=
  let x := (r.state.ports.get f.port).receive f.bytes
  r.state.setPort f.port { x with phase := .answering, response := r.response, endAction := r.action }

/-- The bytes of one frame on its port. RECEIVING: the frame is received, judged and answered. ANSWERING: its bytes are
ignored and only the position counts. IDLE: clock edges do nothing. Held in reset: no frame is taken (R160, R162, R189). -/
def State.takeFrame (s : State) (f : Frame) (own : State → Reply) : Host.Outcome State Fault Refusal :=
  s.whileUp fun s =>
    match (s.ports.get f.port).phase with
    | .idle => s
    | .answering => s.setPort f.port ((s.ports.get f.port).exchange f.bytes.length)
    | .receiving => (s.replyTo f own).deliver f

/-- The command of a district port, for the district of that port (R168). On the river port a frame is refused before. -/
def onDistrict (p : PortId) (s : State) (own : District → Reply) : Reply :=
  match p with
  | .district d => own d
  | .river => .code s .wrongPort

/-! ### Edges of SEL_n (R160, R165, R166, R169) -/

/-- A fall of SEL_n starts a transaction: RECEIVING, and the status segment is loaded (R160, R165). -/
def State.selFall (s : State) (p : PortId) : State :=
  let x := s.ports.get p
  if x.selN then
    s.setPort p
      { x with
        selN := false, phase := .receiving, position := 0, code := none, sum := 0
        status := s.statusSegment p, endAction := .none }
  else s

/-- The level of a port's SEL_n line. -/
def State.selLevel (s : State) (p : PortId) (high : Bool) : State := s.setPort p { s.ports.get p with selN := high }

/-- A short transaction ends (R166). -/
def State.endShort (s : State) (p : PortId) (bytes : List Byte) : State :=
  s.setPort p { (s.ports.get p).receive bytes with selN := true, phase := .idle, frameShort := true }

/-- Number of response bytes shifted out in full (R164). -/
def PortIf.shifted (x : PortIf) : Nat := x.position - x.frameLength

/-- The kinds whose byte of a READ NOTICES response was shifted out in full: kinds 13 to 8 with the second response byte, kinds
7 to 0 with the third (R180). -/
def noticesOut (shifted : Nat) : BitVec 14 :=
  (if 2 ≤ shifted then 0x3F00#14 else 0) ||| (if 3 ≤ shifted then 0x00FF#14 else 0)

/-- The clear at the end of a READ NOTICES: returned, carried out in full, and not posted since (R180). -/
def NoticePort.clearRead (n : NoticePort) (returned : BitVec 14) (shifted : Nat) : NoticePort :=
  n.remove (returned &&& noticesOut shifted &&& ~~~n.since)

/-- The removal at the end of a READ COMPLETIONS (R105): the records carried out in full, less those that overflows dropped
meanwhile, leave from the head. -/
def OrderQueue.removeRead (q : OrderQueue) (returned shifted : Nat) : OrderQueue :=
  { q with completions := q.completions.drop (min returned ((shifted - 2) / 19) - q.readDrops) }

/-- Bytes of one snapshot entry in the response (R183). -/
def entryBytes (timers : Bool) : Nat := if timers then 11 else 9

/-- Remove one entry of a snapshot buffer. -/
def dropLatch (b : Oct Latches) (k : UnitId × Bool) : Oct Latches :=
  b.set k.1 (if k.2 then { b.get k.1 with timers := none } else { b.get k.1 with status := none })

/-- The entries carried out in full, in order, with `out` bytes of entries shifted out (R183). -/
def entriesOut : Nat → List (UnitId × Bool) → List (UnitId × Bool)
  | _, [] => []
  | out, k :: ks => if entryBytes k.2 ≤ out then k :: entriesOut (out - entryBytes k.2) ks else []

/-- The removal at the end of a READ SNAPSHOT (R183). -/
def NoticePort.removeRead (n : NoticePort) (keys : List (UnitId × Bool)) (shifted : Nat) : NoticePort :=
  { n with buffer := (entriesOut (shifted - 2) keys).foldl dropLatch n.buffer }

/-- The end-of-transaction action of the command taken, with `shifted` response bytes carried out in full (R169). -/
def State.endOf (s : State) (p : PortId) (a : EndAction) (shifted : Nat) : State :=
  match a with
  | .none => s
  | .clearNotices k => s.setNotice p ((s.notices.get p).clearRead k shifted)
  | .removeCompletions n =>
    match p with
    | .district d => s.setQueue d ((s.queues.get d).removeRead n shifted)
    | .river => s
  | .removeSnapshots ks => s.setNotice p ((s.notices.get p).removeRead ks shifted)
  | .stationReset => s.resetBlocks

/-- SEL_n rises in ANSWERING after `n` more bytes: the port is IDLE, and the action of the command taken is carried out
(R160, R169). -/
def State.endAnswer (s : State) (p : PortId) (n : Nat) : State :=
  let x := (s.ports.get p).exchange n
  (s.setPort p { x with selN := true, phase := .idle, endAction := .none }).endOf p x.endAction x.shifted

/-- A rise of SEL_n named by the row of phase `ph`. Held in reset, the line moves and nothing is taken (R189). A line that is
high already cannot rise. In another phase the row is not what the rise is: refused (log entry 13). -/
def State.selRise (s : State) (p : PortId) (ph : Phase) (act : State → State) : Host.Outcome State Fault Refusal :=
  if !s.resetN then .next (s.selLevel p true)
  else if (s.ports.get p).selN then .next s
  else if (s.ports.get p).phase = ph then .next (act s)
  else .refused .otherPhase

end Sys2Proof.Machine
end

