-- ==== Sys2Proof/Machine/AnyPortCommands.lean ====
section
/-! DEFINITION. The commands of the role 'any port' (R168): NOP, the notices, the station-wide reads, the snapshots,
CLEAR TRIP and READ CONFIG, and the frame whose code the table does not hold. -/

namespace Sys2Proof.Machine

/-- NOP (R172): no effect on any block. -/
def execNop (p : PortId) (chk : Byte) (s : State) : Host.Outcome State Fault Refusal :=
  s.takeFrame ⟨p, 0x01, [], chk⟩ fun s => .code s .ok

/-- The notice set as the 16-bit field of READ NOTICES (R180). -/
def noticeField (set : BitVec 14) : List Byte := beBytes 2 set.toNat

/-- READ NOTICES (R180): the set is returned; what may be cleared waits for the rise of SEL_n. -/
def execReadNotices (p : PortId) (chk : Byte) (s : State) : Host.Outcome State Fault Refusal :=
  s.takeFrame ⟨p, 0x03, [], chk⟩ fun s =>
    let n := s.notices.get p
    { state := s.setNotice p { n with since := 0 }
      response := [Result.ok.byte] ++ noticeField n.set
      action := .clearNotices n.set }

/-- SET NOTICE MASK (R179): bit k masks kind k; bits 15 and 14 are ignored. -/
def execSetNoticeMask (p : PortId) (mask : BitVec 16) (chk : Byte) (s : State) : Host.Outcome State Fault Refusal :=
  s.takeFrame ⟨p, 0x04, field16 mask, chk⟩ fun s =>
    .code (s.setNotice p ((s.notices.get p).setMask (mask.truncate 14))) .ok

/-- The response of READ STATION (R173). -/
def State.stationBytes (s : State) : List Byte :=
  let r := s.river
  beBytes 4 s.clock.toNat ++ byte1 (boolCode s.store.defaulted) ++ byte1 (boolCode s.committing)
    ++ byte1 (boolCode s.svc) ++ beBytes 2 r.cap ++ byte1 r.capStatus.code ++ beBytes 2 r.silence
    ++ byte1 (closureCode r.closure) ++ byte1 r.profile.val ++ byte1 r.pselSeen.val ++ byte1 r.pselAge
    ++ beBytes 2 (budgetCode s.budget) ++ beBytes 2 s.spacing ++ beBytes 2 s.station.fallbackCap
    ++ beSigned 2 s.station.sill ++ byte1 (boolCode r.stage.isSome) ++ beSigned 2 (r.stage.getD 0)
    ++ beBytes 2 r.stageAge ++ byte1 r.stageFreshness.code ++ beSigned 2 (r.stageUsed s.station.sill)
    ++ byte1 (boolCode s.disp.request)

/-- READ STATION (R173). -/
def execReadStation (p : PortId) (chk : Byte) (s : State) : Host.Outcome State Fault Refusal :=
  s.takeFrame ⟨p, 0x05, [], chk⟩ fun s => { state := s, response := [Result.ok.byte] ++ s.stationBytes }

/-- The fields of READ UNIT after the result code, 40 bytes (R174). -/
def UnitRec.bytes (u : UnitRec) (now : Second) : List Byte :=
  byte1 u.state.code ++ byte1 (codeOrAbsent TripReason.code u.tripReason)
    ++ byte1 (codeOrAbsent StopReason.code u.stopReason) ++ byte1 u.commandedBay.val ++ byte1 u.selPos.val
    ++ byte1 (boolCode u.avail) ++ byte1 (boolCode u.atSpeed) ++ byte1 (boolCode u.runReq)
    ++ byte1 (boolCode u.uncommanded) ++ beBytes 2 u.estimate ++ beBytes 4 u.creditMark.toNat
    ++ beBytes 2 u.runHold.left ++ beBytes 2 u.rest.left ++ beBytes 2 u.stateTimer.left
    ++ byte1 u.history.length ++ beBytes 2 (u.oldestAge now) ++ byte1 (boolCode u.configPending)
    ++ byte1 (codeOrAbsent PortId.code u.clearedBy) ++ byte1 (boolCode u.cfg.enable) ++ byte1 u.cfg.cls.val
    ++ byte1 (reachCode u.cfg.reach) ++ beBytes 2 u.cfg.minRun ++ beBytes 2 u.cfg.minRest
    ++ byte1 u.cfg.maxStarts ++ beBytes 2 u.cfg.startTimeout ++ beBytes 2 u.cfg.stopTimeout
    ++ beBytes 2 u.cfg.travelTimeout

/-- READ UNIT (R174). -/
def execReadUnit (p : PortId) (unit : Byte) (chk : Byte) (s : State) : Host.Outcome State Fault Refusal :=
  s.takeFrame ⟨p, 0x06, [unit], chk⟩ fun s =>
    match unitOf unit with
    | none => { state := s, response := [Result.badValue.byte] ++ zeroFill 40 }
    | some i => { state := s, response := [Result.ok.byte] ++ (s.units.get i).bytes s.clock }

/-- The response of READ ALLOCATION after the result code, 76 bytes (R146). -/
def Dispatcher.bytes (x : Dispatcher) : List Byte :=
  byte1 (boolCode x.lastEval.isSome) ++ beBytes 4 (x.lastEval.getD 0).toNat ++ beBytes 2 x.capUsed
    ++ beBytes 2 (budgetCode x.budgetUsed) ++ beBytes 4 x.sums.commanded ++ beBytes 4 x.sums.uncommanded
    ++ beBytes 4 x.sums.rundown ++ beSigned 4 x.sums.free ++ beBytes 2 x.sums.committedPower
    ++ beBytes 2 x.sums.rundownPower ++ byte1 (boolCode x.lastStart.isSome)
    ++ beBytes 4 (x.lastStart.getD 0).toNat ++ x.table.toList.flatMap Row.bytes

/-- READ ALLOCATION (R146). -/
def execReadAllocation (p : PortId) (chk : Byte) (s : State) : Host.Outcome State Fault Refusal :=
  s.takeFrame ⟨p, 0x07, [], chk⟩ fun s => { state := s, response := [Result.ok.byte] ++ s.disp.bytes }

/-- The latch requests of one SNAPSHOT for one unit: a kind that is latched and unread keeps its entry (R182). -/
def latchUnit (now : Second) (us : Oct UnitRec) (units kinds : Byte) (b : Oct Latches) (i : UnitId) : Oct Latches :=
  if units.getLsbD i.val then
    let l := b.get i
    let u := us.get i
    b.set i
      { status := if kinds.getLsbD 0 then l.status.or (some u.statusEntry) else l.status
        timers := if kinds.getLsbD 1 then l.timers.or (some (u.timersEntry now)) else l.timers }
  else b

/-- SNAPSHOT (R182). -/
def execSnapshot (p : PortId) (units kinds : Byte) (chk : Byte) (s : State) : Host.Outcome State Fault Refusal :=
  s.takeFrame ⟨p, 0x08, [units, kinds], chk⟩ fun s =>
    if kinds &&& 0xFC != 0 then .code s .badValue
    else
      let n := s.notices.get p
      .code
        (s.setNotice p { n with buffer := unitIds.foldl (latchUnit s.clock s.units units kinds) n.buffer }) .ok

/-- The entries of a snapshot buffer in the order they go out: ascending units, status before timers (R183). -/
def bufferEntries (b : Oct Latches) : List ((UnitId × Bool) × List Byte) :=
  unitIds.flatMap fun i =>
    ((b.get i).status.toList.map fun e => ((i, false), e.bytes i))
      ++ ((b.get i).timers.toList.map fun e => ((i, true), e.bytes i))

/-- READ SNAPSHOT (R183): what may be removed waits for the rise of SEL_n. -/
def execReadSnapshot (p : PortId) (chk : Byte) (s : State) : Host.Outcome State Fault Refusal :=
  s.takeFrame ⟨p, 0x09, [], chk⟩ fun s =>
    let es := bufferEntries (s.notices.get p).buffer
    { state := s
      response := [Result.ok.byte] ++ byte1 es.length ++ es.flatMap Prod.snd
      action := .removeSnapshots (es.map Prod.fst) }

/-- CLEAR TRIP (R65). -/
def execClearTrip (p : PortId) (unit : Byte) (chk : Byte) (s : State) : Host.Outcome State Fault Refusal :=
  s.takeFrame ⟨p, 0x0A, [unit], chk⟩ fun s =>
    match unitOf unit with
    | none => .code s .badValue
    | some i =>
      let r := (s.units.get i).clearTrip p
      .code (s.setUnit i r.1) (if r.2 then .ok else .notClearable)

/-- The fields of READ BAY after the result code, 27 bytes (R175). -/
def State.bayBytes (s : State) (d : District) : List Byte :=
  let b := s.bays.get d
  byte1 (boolCode b.reported.isSome) ++ beSigned 2 (b.reported.getD 0) ++ beBytes 2 b.age
    ++ byte1 b.freshness.code ++ byte1 (boolCode b.floatInput) ++ byte1 (boolCode b.floatDemand)
    ++ byte1 (boolCode b.lowSuction) ++ beSigned 2 b.levelUsed ++ beBytes 2 (s.head d) ++ beSigned 2 b.cfg.floor
    ++ beSigned 2 b.cfg.floatLevel ++ byte1 b.cfg.floatMode.code ++ byte1 b.cfg.weight
    ++ classIds.flatMap fun c => beBytes 2 (s.estimateAt c d)

/-- READ BAY (R175). -/
def execReadBay (p : PortId) (bay : Byte) (chk : Byte) (s : State) : Host.Outcome State Fault Refusal :=
  s.takeFrame ⟨p, 0x0B, [bay], chk⟩ fun s =>
    match bayOf bay with
    | none => { state := s, response := [Result.badValue.byte] ++ zeroFill 27 }
    | some d => { state := s, response := [Result.ok.byte] ++ s.bayBytes d }

/-- The response of READ CONFIG (R187): the record in the argument layout of the matching write. -/
def State.configBytes (s : State) (kind index : Byte) : List Byte :=
  match kind.toNat with
  | 0 =>
    match classOf index with
    | none => [Result.badValue.byte] ++ zeroFill 29
    | some c => [Result.ok.byte] ++ (s.curves.get c).bytes c
  | 1 =>
    match unitOf index with
    | none => [Result.badValue.byte] ++ zeroFill 15
    | some i => [Result.ok.byte] ++ (s.units.get i).cfg.bytes i
  | 2 =>
    match bayOf index with
    | none => [Result.badValue.byte] ++ zeroFill 7
    | some d => [Result.ok.byte] ++ (s.bays.get d).cfg.bytes d
  | 3 => [Result.ok.byte] ++ s.station.bytes
  | _ => [Result.badValue.byte]

/-- READ CONFIG (R187). -/
def execReadConfig (p : PortId) (kind index : Byte) (chk : Byte) (s : State) : Host.Outcome State Fault Refusal :=
  s.takeFrame ⟨p, 0x65, [kind, index], chk⟩ fun s => { state := s, response := s.configBytes kind index }

/-- A frame whose code the command table does not hold (R162, R167): refused with UNKNOWN_COMMAND, or BAD_CHECK. -/
def execUnknownCommand (p : PortId) (code : Byte) (chk : Byte) (s : State) : Host.Outcome State Fault Refusal :=
  if (commandRow code).isNone then s.takeFrame ⟨p, code, [], chk⟩ fun s => .code s .unknownCommand
  else .refused .illFormed

end Sys2Proof.Machine
end

