-- ==== Sys2Proof/Machine/DistrictCommands.lean ====
section
/-! DEFINITION. The commands of the role 'district' (R168): levels and floats of the port's bay (chapter 1), and the drain
orders of the port's queue (chapter 5). -/

namespace Sys2Proof.Machine

/-- REPORT LEVEL (R5). -/
def execReportLevel (p : PortId) (level : BitVec 16) (chk : Byte) (s : State) : Host.Outcome State Fault Refusal :=
  s.takeFrame ⟨p, 0x20, field16 level, chk⟩ fun s => onDistrict p s fun d =>
    .code (s.applyBay d ((s.bays.get d).report (clampLevel level))) (okOrClamped (clampLevel level != level.toInt))

/-- A deadline argument after clamping: 0 is none, others 60 to 604,800 s (R91). -/
def deadlineOf (v : BitVec 32) : Option Nat := if v = 0 then none else some (clampNat 60 604800 v.toNat)

/-- A volume argument after clamping (R91). -/
def volumeOf (v : BitVec 32) : Nat := min 2000000000 v.toNat

/-- Step 4 of R91 clamped the volume or the deadline. -/
def postClamped (volume deadline : BitVec 32) : Bool :=
  volumeOf volume != volume.toNat || (deadlineOf deadline).getD 0 != deadline.toNat

/-- The order a POST ORDER creates (R92). -/
def newOrder (tag : Byte) (u : Urgency) (volume deadline : BitVec 32) (now : Second) : Order :=
  { tag := tag, urgency := u, posted := volumeOf volume, remaining := volumeOf volume, postedAt := now,
    deadline := deadlineOf deadline, state := .queued }

/-- The checks of R91 in their order, and the queue after the command. -/
def OrderQueue.takePost (q : OrderQueue) (closed : Bool) (now : Second) (tag urgency : Byte)
    (volume deadline : BitVec 32) : OrderQueue × Result :=
  match urgencyOf urgency with
  | none => (q, .badValue)
  | some u =>
    if tag = 0 || volume.toNat < 1000 then (q, .badValue)
    else if 8 ≤ q.orders.length then (q, .queueFull)
    else if q.hasTag tag then (q, .tagInUse)
    else (q.post closed (newOrder tag u volume deadline now), okOrClamped (postClamped volume deadline))

/-- POST ORDER (R91, R92): answered with the number of orders after the command. -/
def execPostOrder (p : PortId) (tag urgency : Byte) (volume deadline : BitVec 32) (chk : Byte) (s : State) :
    Host.Outcome State Fault Refusal :=
  s.takeFrame ⟨p, 0x21, [tag, urgency] ++ field32 volume ++ field32 deadline, chk⟩ fun s => onDistrict p s fun d =>
    let r := (s.queues.get d).takePost s.closed s.clock tag urgency volume deadline
    { state := s.setQueue d r.1, response := [r.2.byte] ++ byte1 r.1.orders.length }

/-- CANCEL ORDER (R96): the order finishes CANCELLED; its remaining is returned, 0 when refused. -/
def execCancelOrder (p : PortId) (tag : Byte) (chk : Byte) (s : State) : Host.Outcome State Fault Refusal :=
  s.takeFrame ⟨p, 0x22, [tag], chk⟩ fun s => onDistrict p s fun d =>
    let q := s.queues.get d
    if tag = 0 then { state := s, response := [Result.badValue.byte] ++ zeroFill 4 }
    else
      match q.find tag with
      | none => { state := s, response := [Result.noSuchTag.byte] ++ zeroFill 4 }
      | some o =>
        { state := s.applyQueue d (q.leave s.closed s.clock .cancelled fun x => x.tag = tag)
          response := [Result.ok.byte] ++ beBytes 4 o.remaining }

/-- SET URGENCY (R98). -/
def execSetUrgency (p : PortId) (tag urgency : Byte) (chk : Byte) (s : State) : Host.Outcome State Fault Refusal :=
  s.takeFrame ⟨p, 0x23, [tag, urgency], chk⟩ fun s => onDistrict p s fun d =>
    match urgencyOf urgency with
    | none => .code s .badValue
    | some u =>
      if tag = 0 then .code s .badValue
      else if (s.queues.get d).hasTag tag then .code (s.setQueue d ((s.queues.get d).setUrgency tag u)) .ok
      else .code s .noSuchTag

/-- OPEN QUEUE (R101): the gate opens on a list with an order; the gate after the command is returned. -/
def execOpenQueue (p : PortId) (chk : Byte) (s : State) : Host.Outcome State Fault Refusal :=
  s.takeFrame ⟨p, 0x24, [], chk⟩ fun s => onDistrict p s fun d =>
    let q := s.queues.get d
    let g := !q.orders.isEmpty
    { state := s.setQueue d { q with gateOpen := g }, response := [Result.ok.byte] ++ byte1 (boolCode g) }

/-- CLOSE QUEUE (R102). -/
def execCloseQueue (p : PortId) (chk : Byte) (s : State) : Host.Outcome State Fault Refusal :=
  s.takeFrame ⟨p, 0x25, [], chk⟩ fun s => onDistrict p s fun d =>
    .code (s.setQueue d { s.queues.get d with gateOpen := false }) .ok

/-- The response of READ QUEUE after the result code (R106). -/
def OrderQueue.bytes (q : OrderQueue) : List Byte :=
  byte1 (boolCode q.gateOpen) ++ byte1 q.orders.length ++ byte1 q.completions.length ++ beBytes 4 q.unordered
    ++ beBytes 6 q.pumped ++ q.orders.flatMap Order.bytes

/-- READ QUEUE (R106). -/
def execReadQueue (p : PortId) (chk : Byte) (s : State) : Host.Outcome State Fault Refusal :=
  s.takeFrame ⟨p, 0x26, [], chk⟩ fun s => onDistrict p s fun d =>
    { state := s, response := [Result.ok.byte] ++ (s.queues.get d).bytes }

/-- READ COMPLETIONS (R104): what may be removed waits for the rise of SEL_n (R105). -/
def execReadCompletions (p : PortId) (count : Byte) (chk : Byte) (s : State) : Host.Outcome State Fault Refusal :=
  s.takeFrame ⟨p, 0x27, [count], chk⟩ fun s => onDistrict p s fun d =>
    let q := s.queues.get d
    let n := min count.toNat q.completions.length
    { state := s.setQueue d { q with readDrops := 0 }
      response := [Result.ok.byte] ++ byte1 n ++ (q.completions.take n).flatMap Completion.bytes
      action := .removeCompletions n }

/-- ACK FLOAT at a bay (R13): the bay after it, and whether float demand ended. -/
def Bay.acknowledge (b : Bay) : Bay × Bool :=
  match b.cfg.floatMode with
  | .latched =>
    if !b.floatInput && b.floatDemand then ({ b with floatDemand := false }, true) else (b, false)
  | .selfClearing => (b, false)

/-- ACK FLOAT is refused on a LATCHED bay whose float input is high (R13). -/
def Bay.ackRefused (b : Bay) : Bool := b.cfg.floatMode = .latched && b.floatInput

/-- ACK FLOAT (R11, R13). -/
def execAckFloat (p : PortId) (chk : Byte) (s : State) : Host.Outcome State Fault Refusal :=
  s.takeFrame ⟨p, 0x28, [], chk⟩ fun s => onDistrict p s fun d =>
    let b := s.bays.get d
    if b.ackRefused then .code s .floatActive
    else .code ((s.setBay d b.acknowledge.1).onlyIf b.acknowledge.2 State.requestEvaluation) .ok

/-- CLEAR UNORDERED (R108): the value held is returned. -/
def execClearUnordered (p : PortId) (chk : Byte) (s : State) : Host.Outcome State Fault Refusal :=
  s.takeFrame ⟨p, 0x29, [], chk⟩ fun s => onDistrict p s fun d =>
    let q := s.queues.get d
    { state := s.setQueue d { q with unordered := 0 }, response := [Result.ok.byte] ++ beBytes 4 q.unordered }

end Sys2Proof.Machine
end

