-- ==== Sys2Proof/Machine/LineEvents.lean ====
section
/-! DEFINITION. The changes of the input lines (R10, R40, R121, R185). A row that names the level a line already has is no
edge and changes nothing (R10, R40); while RESET_n is low only the line moves (R189). -/

namespace Sys2Proof.Machine

/-- The FLOAT line of a bay moves while the part takes no change. -/
def State.floatLevel (s : State) (d : District) (high : Bool) : State :=
  s.setBay d { s.bays.get d with floatInput := high }

/-- FLOAT_LINE_RISE (R10, R11, R12). -/
def execFloatLineRise (b : District) (s : State) : Host.Outcome State Fault Refusal :=
  s.lineChange (fun s => s.floatLevel b true) fun s => if (s.bays.get b).floatInput then s else s.floatRise b

/-- FLOAT_LINE_FALL (R10, R11, R12, R14). -/
def execFloatLineFall (b : District) (s : State) : Host.Outcome State Fault Refusal :=
  s.lineChange (fun s => s.floatLevel b false) fun s => if (s.bays.get b).floatInput then s.floatFall b else s

/-- AVAIL_RISE (R43, R46). -/
def execAvailRise (u : UnitId) (s : State) : Host.Outcome State Fault Refusal :=
  s.lineChange (fun s => s.setUnit u { s.units.get u with avail := true }) fun s =>
    if (s.units.get u).avail then s else s.onUnit u fun r => r.availRise s.clock

/-- AVAIL_FALL (R44, R45, R46). -/
def execAvailFall (u : UnitId) (s : State) : Host.Outcome State Fault Refusal :=
  s.lineChange (fun s => s.setUnit u { s.units.get u with avail := false }) fun s =>
    if (s.units.get u).avail then s.onUnit u fun r => r.availFall s.clock else s

/-- ATSPEED_RISE (R49, R55, R63, R64, R66). -/
def execAtspeedRise (u : UnitId) (s : State) : Host.Outcome State Fault Refusal :=
  s.lineChange (fun s => s.setUnit u { s.units.get u with atSpeed := true }) fun s =>
    if (s.units.get u).atSpeed then s else s.onUnit u fun r => r.atSpeedRise s.clock

/-- ATSPEED_FALL (R43, R51, R53, R64). -/
def execAtspeedFall (u : UnitId) (s : State) : Host.Outcome State Fault Refusal :=
  s.lineChange (fun s => s.setUnit u { s.units.get u with atSpeed := false }) fun s =>
    if (s.units.get u).atSpeed then s.onUnit u fun r => r.atSpeedFall s.clock else s

/-- SELPOS_CHANGE (R40, R43, R58, R61, R64). -/
def execSelposChange (u : UnitId) (pos : Fin 4) (s : State) : Host.Outcome State Fault Refusal :=
  s.lineChange (fun s => s.setUnit u { s.units.get u with selPos := pos }) fun s =>
    if (s.units.get u).selPos = pos then s else s.onUnit u fun r => r.selPosChange s.clock pos

/-- PSEL_CHANGE (R121). -/
def execPselChange (code : Fin 4) (s : State) : Host.Outcome State Fault Refusal :=
  s.lineChange (fun s => s.setRiver { s.river with pselSeen := code }) fun s =>
    if s.river.pselSeen = code then s else s.setRiver (s.river.pselChange code)

/-- SVC_CHANGE (R185): no effect of its own; SVC is read when a command is judged. -/
def execSvcChange (high : Bool) (s : State) : Host.Outcome State Fault Refusal :=
  s.lineChange (fun s => { s with svc := high }) fun s => { s with svc := high }

end Sys2Proof.Machine
end

