-- ==== Sys2Proof/Machine/MarkEvents.lean ====
section
/-! DEFINITION. The second mark and the events taken at it. An event that its mark has not made due is not taken and changes
nothing (log entry 2); held in reset the part makes no second mark (R189). -/

namespace Sys2Proof.Machine

/-- SECOND_MARK (R3, R6, R20, R72, R112, R121, R125, R188). -/
def execSecondMark (s : State) : Host.Outcome State Fault Refusal := s.whileUp State.secondMark

/-- FRESHNESS_FALL (R7, R9). -/
def execFreshnessFall (b : District) (s : State) : Host.Outcome State Fault Refusal := s.whileUp fun s => s.ageBay b

/-- STAGE_FRESHNESS_FALL (R20). -/
def execStageFreshnessFall (s : State) : Host.Outcome State Fault Refusal := s.whileUp State.ageStage

/-- CAP_STATUS_HELD (R113): the judging of this mark, unless it is the fallback event. -/
def execCapStatusHeld (s : State) : Host.Outcome State Fault Refusal :=
  s.whileUp fun s => if nextAge s.river.silence = 720 then s else s.judgeSilence

/-- FALLBACK_EVENT (R113, R120): the judging of this mark, unless it makes the status HELD. -/
def execFallbackEvent (s : State) : Host.Outcome State Fault Refusal :=
  s.whileUp fun s => if nextAge s.river.silence = 120 then s else s.judgeSilence

/-- PROFILE_COMES_INTO_FORCE (R121). -/
def execProfileComesIntoForce (s : State) : Host.Outcome State Fault Refusal := s.whileUp State.filterProfile

/-- RUN_HOLD_EXPIRY (R73). -/
def execRunHoldExpiry (u : UnitId) (s : State) : Host.Outcome State Fault Refusal :=
  s.whileUp fun s => s.onUnit u UnitRec.runHoldExpiry

/-- REST_EXPIRY (R56, R60, R84). -/
def execRestExpiry (u : UnitId) (s : State) : Host.Outcome State Fault Refusal :=
  s.whileUp fun s => s.onUnit u fun r => r.restExpiry s.clock

/-- START_TIMEOUT_EXPIRY (R50). -/
def execStartTimeoutExpiry (u : UnitId) (s : State) : Host.Outcome State Fault Refusal :=
  s.whileUp fun s => s.onUnit u fun r => r.startTimeoutExpiry s.clock

/-- STOP_TIMEOUT_EXPIRY (R54). -/
def execStopTimeoutExpiry (u : UnitId) (s : State) : Host.Outcome State Fault Refusal :=
  s.whileUp fun s => s.onUnit u fun r => r.stopTimeoutExpiry s.clock

/-- TRAVEL_TIMEOUT_EXPIRY (R59). -/
def execTravelTimeoutExpiry (u : UnitId) (s : State) : Host.Outcome State Fault Refusal :=
  s.whileUp fun s => s.onUnit u fun r => r.travelTimeoutExpiry s.clock

/-- START_HISTORY_AGEING (R80). -/
def execStartHistoryAgeing (u : UnitId) (s : State) : Host.Outcome State Fault Refusal :=
  s.whileUp fun s => s.setUnit u ((s.units.get u).ageHistory s.clock)

/-- DEADLINE_EXPIRY (R97). -/
def execDeadlineExpiry (d : District) (s : State) : Host.Outcome State Fault Refusal := s.whileUp fun s => s.cutQueue d

/-- COMMIT_END (R188), with the outcome of the read-back. -/
def execCommitEnd (equal : Bool) (s : State) : Host.Outcome State Fault Refusal :=
  s.whileUp fun s => s.endCommit equal

/-- EVALUATION (R125). -/
def execEvaluation (s : State) : Host.Outcome State Fault Refusal := s.whileUp State.evaluateIfDue

end Sys2Proof.Machine
end

