-- ==== Sys2Proof/Machine/PortEvents.lean ====
section
/-! DEFINITION. The edges of SEL_n (R160, R165, R166, R169) and the resets (R189). -/

namespace Sys2Proof.Machine

/-- SEL_N_FALL (R160, R165). Held in reset only the line moves (R189). -/
def execSelNFall (p : PortId) (s : State) : Host.Outcome State Fault Refusal :=
  s.lineChange (fun s => s.selLevel p false) fun s => s.selFall p

/-- SHORT_TRANSACTION (R166): SEL_n rises in RECEIVING after `bytes`. -/
def execShortTransaction (p : PortId) (bytes : List Byte) (s : State) : Host.Outcome State Fault Refusal :=
  if isShort bytes then s.selRise p .receiving fun s => s.endShort p bytes else .refused .illFormed

/-- END_OF_TRANSACTION (R169): SEL_n rises in ANSWERING after `n` more bytes. -/
def execEndOfTransaction (p : PortId) (n : Nat) (s : State) : Host.Outcome State Fault Refusal :=
  s.selRise p .answering fun s => s.endAnswer p n

/-- SEL_N_RISE_IN_IDLE (R160): the port is armed again for the next fall. -/
def execSelNRiseInIdle (p : PortId) (s : State) : Host.Outcome State Fault Refusal :=
  s.selRise p .idle fun s => s.selLevel p true

/-- POWER_ON (R189). -/
def execPowerOn (s : State) : Host.Outcome State Fault Refusal := .next s.powerOn

/-- RESET_N_FALL (R189). A line that is low already cannot fall. -/
def execResetNFall (s : State) : Host.Outcome State Fault Refusal := s.whileUp State.holdInReset

/-- RESET_N_RISE (R189). A line that is high already cannot rise. -/
def execResetNRise (s : State) : Host.Outcome State Fault Refusal :=
  .next (if s.resetN then s else s.startUp)

end Sys2Proof.Machine
end

