-- ==== Sys2Proof/Machine/RiverCommands.lean ====
section
/-! DEFINITION. The commands of the role 'river' (R168): the cap, the stage and closure. -/

namespace Sys2Proof.Machine

/-- SET CAP (R115). -/
def execSetCap (p : PortId) (cap : BitVec 16) (chk : Byte) (s : State) : Host.Outcome State Fault Refusal :=
  s.takeFrame ⟨p, 0x40, field16 cap, chk⟩ fun s =>
    .code (s.setCap (clampCap cap)) (okOrClamped (clampCap cap != cap.toNat))

/-- REPORT STAGE (R19). -/
def execReportStage (p : PortId) (stage : BitVec 16) (chk : Byte) (s : State) : Host.Outcome State Fault Refusal :=
  s.takeFrame ⟨p, 0x41, field16 stage, chk⟩ fun s =>
    .code (s.setRiver (s.river.report (clampStage stage))) (okOrClamped (clampStage stage != stage.toInt))

/-- CLOSE STATION (R118). -/
def execCloseStation (p : PortId) (chk : Byte) (s : State) : Host.Outcome State Fault Refusal :=
  s.takeFrame ⟨p, 0x42, [], chk⟩ fun s => .code s.closeStation .ok

/-- LIFT CLOSURE (R119). -/
def execLiftClosure (p : PortId) (chk : Byte) (s : State) : Host.Outcome State Fault Refusal :=
  s.takeFrame ⟨p, 0x43, [], chk⟩ fun s => .code s.liftClosure .ok

end Sys2Proof.Machine
end

