-- ==== Sys2Proof/Machine/ServiceCommands.lean ====
section
/-! DEFINITION. The commands of the service roles (R168): the four configuration writes (R25, R186), COMMIT CONFIG (R188)
and STATION RESET (R190). -/

namespace Sys2Proof.Machine

/-- A taken write posts CONFIG_CHANGED to all ports (R185). -/
def writeTaken (s : State) (clamped : Bool) : Reply := .code (s.postAll .configChanged) (okOrClamped clamped)

/-- WRITE CURVE (R25, R26, R27). -/
def execWriteCurve (p : PortId) (a : CurveArgs) (chk : Byte) (s : State) : Host.Outcome State Fault Refusal :=
  s.takeFrame ⟨p, 0x60, a.bytes, chk⟩ fun s =>
    match classOf a.cls with
    | none => .code s .badValue
    | some c =>
      if (curveRecord a).shapely then
        writeTaken { s with curves := s.curves.set c (curveRecord a) } (curveClamped a)
      else .code s .curveShape

/-- WRITE UNIT CONFIG (R83, R186). -/
def execWriteUnitConfig (p : PortId) (a : UnitArgs) (chk : Byte) (s : State) : Host.Outcome State Fault Refusal :=
  s.takeFrame ⟨p, 0x61, a.bytes, chk⟩ fun s =>
    match unitRecord a with
    | none => .code s .badValue
    | some (i, c) => writeTaken (s.applyUnit i ((s.units.get i).configure s.clock c)) (unitClamped a c)

/-- WRITE BAY CONFIG (R17, R186). -/
def execWriteBayConfig (p : PortId) (a : BayArgs) (chk : Byte) (s : State) : Host.Outcome State Fault Refusal :=
  s.takeFrame ⟨p, 0x62, a.bytes, chk⟩ fun s =>
    match bayRecord a with
    | none => .code s .badValue
    | some (d, c) => writeTaken (s.configureBay d c) (bayClamped a c)

/-- WRITE STATION CONFIG (R21, R116, R122, R186). -/
def execWriteStationConfig (p : PortId) (a : StationArgs) (chk : Byte) (s : State) : Host.Outcome State Fault Refusal :=
  s.takeFrame ⟨p, 0x63, a.bytes, chk⟩ fun s =>
    writeTaken (s.configureStation (stationRecord a)) (stationClamped a)

/-- COMMIT CONFIG (R188). -/
def execCommitConfig (p : PortId) (chk : Byte) (s : State) : Host.Outcome State Fault Refusal :=
  s.takeFrame ⟨p, 0x64, [], chk⟩ fun s => .code s.beginCommit .ok

/-- STATION RESET (R190): it takes effect at the rise of SEL_n that ends its transaction. -/
def execStationReset (p : PortId) (chk : Byte) (s : State) : Host.Outcome State Fault Refusal :=
  s.takeFrame ⟨p, 0x66, [], chk⟩ fun s =>
    { state := s, response := [Result.ok.byte], action := .stationReset }

end Sys2Proof.Machine
end

