-- ==== Sys2Proof/Machine/Dispatch.lean ====
section
/-! DEFINITION. One arm per row of spec/opcode_table.json, each the meaning of that row. -/

namespace Sys2Proof.Machine

def exec (i : Instr) (s : State) : Host.Outcome State Fault Refusal :=
  match i with
  | .nop p chk => Sys2Proof.Machine.execNop p chk s
  | .readNotices p chk => Sys2Proof.Machine.execReadNotices p chk s
  | .setNoticeMask p mask chk => Sys2Proof.Machine.execSetNoticeMask p mask chk s
  | .readStation p chk => Sys2Proof.Machine.execReadStation p chk s
  | .readUnit p unit chk => Sys2Proof.Machine.execReadUnit p unit chk s
  | .readAllocation p chk => Sys2Proof.Machine.execReadAllocation p chk s
  | .snapshot p units kinds chk => Sys2Proof.Machine.execSnapshot p units kinds chk s
  | .readSnapshot p chk => Sys2Proof.Machine.execReadSnapshot p chk s
  | .clearTrip p unit chk => Sys2Proof.Machine.execClearTrip p unit chk s
  | .readBay p bay chk => Sys2Proof.Machine.execReadBay p bay chk s
  | .reportLevel p level chk => Sys2Proof.Machine.execReportLevel p level chk s
  | .postOrder p tag urgency volume deadline chk => Sys2Proof.Machine.execPostOrder p tag urgency volume deadline chk s
  | .cancelOrder p tag chk => Sys2Proof.Machine.execCancelOrder p tag chk s
  | .setUrgency p tag urgency chk => Sys2Proof.Machine.execSetUrgency p tag urgency chk s
  | .openQueue p chk => Sys2Proof.Machine.execOpenQueue p chk s
  | .closeQueue p chk => Sys2Proof.Machine.execCloseQueue p chk s
  | .readQueue p chk => Sys2Proof.Machine.execReadQueue p chk s
  | .readCompletions p count chk => Sys2Proof.Machine.execReadCompletions p count chk s
  | .ackFloat p chk => Sys2Proof.Machine.execAckFloat p chk s
  | .clearUnordered p chk => Sys2Proof.Machine.execClearUnordered p chk s
  | .setCap p cap chk => Sys2Proof.Machine.execSetCap p cap chk s
  | .reportStage p stage chk => Sys2Proof.Machine.execReportStage p stage chk s
  | .closeStation p chk => Sys2Proof.Machine.execCloseStation p chk s
  | .liftClosure p chk => Sys2Proof.Machine.execLiftClosure p chk s
  | .writeCurve p a chk => Sys2Proof.Machine.execWriteCurve p a chk s
  | .writeUnitConfig p a chk => Sys2Proof.Machine.execWriteUnitConfig p a chk s
  | .writeBayConfig p a chk => Sys2Proof.Machine.execWriteBayConfig p a chk s
  | .writeStationConfig p a chk => Sys2Proof.Machine.execWriteStationConfig p a chk s
  | .commitConfig p chk => Sys2Proof.Machine.execCommitConfig p chk s
  | .readConfig p kind index chk => Sys2Proof.Machine.execReadConfig p kind index chk s
  | .stationReset p chk => Sys2Proof.Machine.execStationReset p chk s
  | .unknownCommand p code chk => Sys2Proof.Machine.execUnknownCommand p code chk s
  | .selNFall p => Sys2Proof.Machine.execSelNFall p s
  | .shortTransaction p bytes => Sys2Proof.Machine.execShortTransaction p bytes s
  | .endOfTransaction p n => Sys2Proof.Machine.execEndOfTransaction p n s
  | .powerOn => Sys2Proof.Machine.execPowerOn s
  | .resetNFall => Sys2Proof.Machine.execResetNFall s
  | .resetNRise => Sys2Proof.Machine.execResetNRise s
  | .secondMark => Sys2Proof.Machine.execSecondMark s
  | .freshnessFall b => Sys2Proof.Machine.execFreshnessFall b s
  | .stageFreshnessFall => Sys2Proof.Machine.execStageFreshnessFall s
  | .capStatusHeld => Sys2Proof.Machine.execCapStatusHeld s
  | .fallbackEvent => Sys2Proof.Machine.execFallbackEvent s
  | .profileComesIntoForce => Sys2Proof.Machine.execProfileComesIntoForce s
  | .runHoldExpiry u => Sys2Proof.Machine.execRunHoldExpiry u s
  | .restExpiry u => Sys2Proof.Machine.execRestExpiry u s
  | .startTimeoutExpiry u => Sys2Proof.Machine.execStartTimeoutExpiry u s
  | .stopTimeoutExpiry u => Sys2Proof.Machine.execStopTimeoutExpiry u s
  | .travelTimeoutExpiry u => Sys2Proof.Machine.execTravelTimeoutExpiry u s
  | .startHistoryAgeing u => Sys2Proof.Machine.execStartHistoryAgeing u s
  | .deadlineExpiry d => Sys2Proof.Machine.execDeadlineExpiry d s
  | .commitEnd equal => Sys2Proof.Machine.execCommitEnd equal s
  | .evaluation => Sys2Proof.Machine.execEvaluation s
  | .floatLineRise b => Sys2Proof.Machine.execFloatLineRise b s
  | .floatLineFall b => Sys2Proof.Machine.execFloatLineFall b s
  | .availRise u => Sys2Proof.Machine.execAvailRise u s
  | .availFall u => Sys2Proof.Machine.execAvailFall u s
  | .atspeedRise u => Sys2Proof.Machine.execAtspeedRise u s
  | .atspeedFall u => Sys2Proof.Machine.execAtspeedFall u s
  | .selposChange u pos => Sys2Proof.Machine.execSelposChange u pos s
  | .pselChange code => Sys2Proof.Machine.execPselChange code s
  | .svcChange high => Sys2Proof.Machine.execSvcChange high s
  | .selNRiseInIdle p => Sys2Proof.Machine.execSelNRiseInIdle p s

end Sys2Proof.Machine
end

