-- ==== Sys2Proof/Safety.lean ====
section
/-! DEFINITION. The words the claims are stated in: when a port takes a frame and how it answers, the refusals of R167, the
fields of an answer, the commands of the Dispatcher at a unit, the stages of an evaluation, and the invariants of a sound part, one
per promise of the spec. -/

namespace Sys2Proof

/-- The running sum of a frame: every byte of it, modulo 256 (R163). -/
def Frame.runningSum (f : Frame) : Nat := (f.bytes.map BitVec.toNat).sum % 256

/-- The rows that name a rise of SEL_n, with the port and the phase each belongs to (R160). -/
def Instr.riseOf : Instr → Option (PortId × Machine.Phase)
  | .shortTransaction p _ => some (p, .receiving)
  | .endOfTransaction p _ => some (p, .answering)
  | .selNRiseInIdle p => some (p, .idle)
  | _ => none

end Sys2Proof

namespace Sys2Proof.Machine

/-! ### Frames -/

/-- The part is up and the port of the frame is in RECEIVING: the frame completes (R160, R189). -/
abbrev State.receives (s : State) (f : Frame) : Prop := s.resetN = true ∧ (s.ports.get f.port).phase = .receiving

/-- The command codes of R171. -/
def commandCodes : List Nat :=
  [0x01, 0x03, 0x04, 0x05, 0x06, 0x07, 0x08, 0x09, 0x0A, 0x0B, 0x20, 0x21, 0x22, 0x23, 0x24, 0x25, 0x26, 0x27, 0x28,
    0x29, 0x40, 0x41, 0x42, 0x43, 0x60, 0x61, 0x62, 0x63, 0x64, 0x65, 0x66]

/-- The river commands and STATION RESET (R168). -/
def riverCodes : List Nat := [0x40, 0x41, 0x42, 0x43, 0x66]

/-- The four configuration writes, COMMIT CONFIG and STATION RESET (R167, R168). -/
def serviceCodes : List Nat := [0x60, 0x61, 0x62, 0x63, 0x64, 0x66]

/-- Steps 1 to 4 of R167 in their order, each with its result code of R171: UNKNOWN_COMMAND, WRONG_PORT, NOT_IN_SERVICE, BUSY;
`none` where the frame passes them. District commands have the codes 20 to 29 (R168, R171). -/
def State.portRefusal (s : State) (f : Frame) : Option Byte :=
  let n := f.code.toNat
  if n ∉ commandCodes then some 0x11
  else if (0x20 ≤ n ∧ n ≤ 0x29 ∧ f.port = .river) ∨ (n ∈ riverCodes ∧ f.port ≠ .river) then some 0x12
  else if n ∈ serviceCodes ∧ s.svc = false then some 0x13
  else if n ∈ serviceCodes ∧ s.store.commit ≠ none then some 0x14
  else none

/-- A frame that completes, has a good check byte and passes steps 1 to 4 of R167: its command is taken. -/
abbrev State.accepts (s : State) (f : Frame) : Prop :=
  s.receives f ∧ f.runningSum = 90 ∧ s.portRefusal f = none

/-- The part after a valid frame on port `p` has been heard, before its command acts: on the river port the silence restarts
and a HELD or FALLBACK status becomes LIVE with CAP_CHANGED to all ports (R112, R114). -/
def State.heardOn (s : State) (p : PortId) : State :=
  match p with
  | .district _ => s
  | .river =>
    { s with
      river := { s.river with silence := 0, capStatus := .live }
      notices := if s.river.capStatus = .live then s.notices else s.notices.map fun n => n.post .capChanged }

/-- The port record of a port in RECEIVING after the frame `f` and the part's answer to it: `response`, and `act` for the rise of
SEL_n (R160, R164, R169). FRAME_SHORT falls when byte 0 of the segment carried it out (R165). -/
def PortIf.answered (x : PortIf) (f : Frame) (response : List Byte) (act : EndAction) : PortIf :=
  { x with
    phase := .answering
    position := min 65535 (x.position + f.bytes.length)
    code := some (x.code.getD f.code)
    frameLength := frameLengthOf (x.code.getD f.code)
    sum := BitVec.ofNat 8 (x.sum.toNat + f.runningSum)
    frameShort := x.frameShort && !x.status.1.getLsbD 5
    response := response
    endAction := act }

/-- The part with the answer to `f` on its port. -/
def State.answer (s : State) (f : Frame) (response : List Byte) (act : EndAction := .none) : State :=
  { s with ports := s.ports.set f.port ((s.ports.get f.port).answered f response act) }

/-- The unsigned field of `n` bytes at place `at_` of an answer, most significant byte first (R1). -/
def fieldAt (bytes : List Byte) (at_ n : Nat) : Nat :=
  ((bytes.drop at_).take n).foldl (fun a b => a * 256 + b.toNat) 0

/-- Commands carried out one after another. -/
def execAll : List Instr → State → Host.Outcome State Fault Refusal
  | [], s => .next s
  | c :: cs, s =>
    match exec c s with
    | .next t => execAll cs t
    | .fault r => .fault r
    | .refused r => .refused r

/-! ### Notices -/

/-- The kind is in the set. -/
def holds (set : BitVec 14) (k : NoticeKind) : Bool := set.getLsbD k.code

/-- The attention line of every port: asserted exactly while the part is up and the set holds an unmasked kind (R178, R189). -/
abbrev NoticePort.attnSound (up : Bool) (n : NoticePort) : Prop :=
  n.attn = true ↔ up = true ∧ ∃ k : Fin 14, n.set.getLsbD k.val = true ∧ n.mask.getLsbD k.val = false

/-- Every port's attention line is driven by R178. -/
abbrev State.AttentionSound (s : State) : Prop := ∀ p : PortId, (s.notices.get p).attnSound s.resetN

/-! ### Units -/

/-- A timer that is about to expire stands at 1 (R72). -/
abbrev Timer.sound (t : Timer) : Prop := t.due = true → t.left = 1

/-- What R38, R41, R42, R71 and R83 promise of a unit record; `up` is RESET_n. -/
structure UnitRec.Sound (up : Bool) (u : UnitRec) : Prop where
  /-- RUNREQ is asserted exactly in STARTING and RUNNING, and removed while the part is held in reset (R41, R189). -/
  runReq : u.runReq = true ↔ up = true ∧ (u.state = .starting ∨ u.state = .running)
  /-- SELCMD drives the commanded bay, and is released while the part is held in reset (R42, R189). -/
  selCmd : u.selCmd = if up = true then some u.commandedBay else none
  /-- A trip reason is present exactly in TRIPPED (R38). -/
  tripReason : u.tripReason.isSome = true ↔ u.state = .tripped
  /-- Run-hold counts in RUNNING and is 0 in every other state (R71). -/
  runHold : u.runHold.left ≠ 0 → u.state = .running
  /-- Rest counts in RESTING and SWITCHING and is 0 in every other state (R71). -/
  rest : u.rest.left ≠ 0 → u.state = .resting ∨ u.state = .switching
  /-- The state timer counts in STARTING, STOPPING and SWITCHING and is 0 in every other state (R71). -/
  stateTimer : u.stateTimer.left ≠ 0 → u.state = .starting ∨ u.state = .stopping ∨ u.state = .switching
  /-- OFFLINE, IDLE and TRIPPED hold no pending configuration (R83). -/
  pending : u.pendingCfg.isSome = true → u.state ≠ .offline ∧ u.state ≠ .idle ∧ u.state ≠ .tripped
  runHoldDue : u.runHold.sound
  restDue : u.rest.sound
  stateTimerDue : u.stateTimer.sound

/-- Every unit record is sound. -/
def State.UnitsSound (s : State) : Prop := ∀ i, (s.units.get i).Sound s.resetN

/-- While closure is in force no unit is in STARTING or RUNNING (R117). -/
def State.ClosureHolds (s : State) : Prop :=
  s.river.closure ≠ none → ∀ i, (s.units.get i).state ≠ .starting ∧ (s.units.get i).state ≠ .running

/-- The part with unit `i` replaced, a notice posted to all ports, and a re-evaluation requested where `request` says so. -/
def State.unitTo (s : State) (i : UnitId) (u : UnitRec) (post : NoticePort → NoticePort) (request : Bool) : State :=
  { s with
    units := s.units.set i u
    notices := s.notices.map post
    disp := if request = true then { s.disp with request := true } else s.disp }

/-- A unit record after a trip (R62): timers 0, RUNREQ removed, a pending configuration in force. -/
def UnitRec.trippedBy (u : UnitRec) (why : TripReason) : UnitRec :=
  { u with
    state := .tripped, tripReason := some why, runReq := false, runHold := { left := 0, due := false }
    rest := { left := 0, due := false }, stateTimer := { left := 0, due := false }
    cfg := u.pendingCfg.getD u.cfg, pendingCfg := none }

/-- A unit record that has gone OFFLINE (R44, R45, R47, R53): timers 0, RUNREQ removed, a pending configuration in force. -/
def UnitRec.outOfService (u : UnitRec) : UnitRec :=
  { u with
    state := .offline, runReq := false, runHold := { left := 0, due := false }, rest := { left := 0, due := false }
    stateTimer := { left := 0, due := false }, cfg := u.pendingCfg.getD u.cfg, pendingCfg := none }

/-- A unit record that rests in full at bay `b` (R43, R53, R65). -/
def UnitRec.restingAt (u : UnitRec) (b : District) : UnitRec :=
  { u with
    state := .resting, tripReason := none, rest := { left := u.cfg.minRest, due := false }
    stateTimer := { left := 0, due := false }, commandedBay := b, selCmd := some b }

/-- The litres a RUNNING unit has not credited yet: seconds since its credit mark times its estimate; 0 in other states (R149,
R151). -/
def UnitRec.owes (u : UnitRec) (now : Second) : Nat :=
  if u.state = .running then (now - u.creditMark).toNat * u.estimate else 0

/-- Nothing of the last second mark is left to be taken (log entry 2). -/
structure State.Settled (s : State) : Prop where
  bays : ∀ d, (s.bays.get d).ageDue = false
  river : s.river.stageDue = false ∧ s.river.silenceDue = false ∧ s.river.profileDue = false
  timers : ∀ i, (s.units.get i).runHold.due = false ∧ (s.units.get i).rest.due = false
    ∧ (s.units.get i).stateTimer.due = false
  history : ∀ i t ts, (s.units.get i).history = t :: ts → (s.clock - t).toNat < 3600
  deadlines : ∀ d, ∀ o ∈ (s.queues.get d).orders, ∀ n, o.deadline = some n → o.postedAt + BitVec.ofNat 32 n ≠ s.clock
  commit : ∀ c, s.store.commit = some c → c.due = false
  evaluation : s.disp.evalDue = false

/-- The rows of what one mark can leave due, in the order in which the next mark takes them (log entry 3). -/
def dueRows (equal : Bool) : List Instr :=
  [.commitEnd equal] ++ districts.map .freshnessFall
    ++ [.stageFreshnessFall, .capStatusHeld, .fallbackEvent, .profileComesIntoForce]
    ++ unitIds.flatMap (fun i =>
      [.runHoldExpiry i, .restExpiry i, .startTimeoutExpiry i, .stopTimeoutExpiry i, .travelTimeoutExpiry i,
        .startHistoryAgeing i])
    ++ districts.map .deadlineExpiry ++ [.evaluation]

/-! ### The commands of the Dispatcher at a unit -/

/-- STARTING or RUNNING: the unit counts as commanded (R128). -/
abbrev UnitRec.onDuty (u : UnitRec) : Prop := u.state = .starting ∨ u.state = .running

/-- OFFLINE or TRIPPED with ATSPEED high: the unit is uncommanded (R66, R128). -/
abbrev UnitRec.loose (u : UnitRec) : Prop := (u.state = .offline ∨ u.state = .tripped) ∧ u.atSpeed = true

/-- RUNNING with run-hold remaining 0: hold-expired (R73). -/
abbrev UnitRec.heldNoMore (u : UnitRec) : Prop := u.state = .running ∧ u.runHold.left = 0

/-- A unit record after a stop it takes (R52). -/
def UnitRec.stoppedBy (u : UnitRec) (now : Second) (why : StopReason) : UnitRec :=
  { u with
    state := .stopping, runReq := false, runHold := { left := 0, due := false }
    stateTimer := { left := u.cfg.stopTimeout, due := false }, stopReason := some why
    creditMark := if u.state = .running then now else u.creditMark }

/-- A unit record after a start it takes (R48). -/
def UnitRec.startedAt (u : UnitRec) (now : Second) : UnitRec :=
  { u with
    state := .starting, runReq := true, stateTimer := { left := u.cfg.startTimeout, due := false }
    history := u.history ++ [now] }

/-- A unit record after a switch to bay `b` that it takes without a pending configuration (R57); where the selector stands at
the bay already the switch ends at once, in RESTING with the rest it had or in IDLE (R58). -/
def UnitRec.switchedTo (u : UnitRec) (b : District) : UnitRec :=
  let zero : Timer := { left := 0, due := false }
  let v := { u with commandedBay := b, selCmd := some b }
  if u.selPos.val ≠ b.val then
    { v with state := .switching, stateTimer := { left := u.cfg.travelTimeout, due := false } }
  else if u.rest.left ≠ 0 then { v with state := .resting, stateTimer := zero }
  else { v with state := .idle, runHold := zero, rest := zero, stateTimer := zero }

/-! ### Order Queues -/

/-- The states of a list: the oldest order ACTIVE or SUSPENDED by closure, the others QUEUED with their whole volume (R89,
R90). -/
def ordersServed (closed : Bool) : List Order → Prop
  | [] => True
  | o :: os => o.state = (if closed = true then .suspended else .active) ∧ ∀ x ∈ os, x.state = .queued ∧ x.remaining = x.posted

/-- What R87 to R90, R100, R103, R107, R109 and R154 promise of an Order Queue. -/
structure OrderQueue.Sound (closed : Bool) (q : OrderQueue) : Prop where
  /-- At most 8 orders (R89). -/
  length : q.orders.length ≤ 8
  /-- No two orders with one tag (R89). -/
  tags : (q.orders.map Order.tag).Nodup
  /-- Tags run from 1, volumes from 1,000 to 2,000,000,000 L, and the remaining from 1 to the posted volume (R88, R154). -/
  volumes : ∀ o ∈ q.orders, o.tag ≠ 0 ∧ 1000 ≤ o.posted ∧ o.posted ≤ 2000000000 ∧ 1 ≤ o.remaining ∧ o.remaining ≤ o.posted
  /-- A deadline is 60 to 604,800 s (R88). -/
  deadlines : ∀ o ∈ q.orders, ∀ n, o.deadline = some n → 60 ≤ n ∧ n ≤ 604800
  /-- The oldest order alone is served (R90). -/
  served : ordersServed closed q.orders
  /-- The gate of an empty list is CLOSED (R100). -/
  gate : q.orders = [] → q.gateOpen = false
  /-- At most 8 completion records (R103). -/
  completions : q.completions.length ≤ 8
  /-- The unordered volume saturates (R107). -/
  unordered : q.unordered ≤ 4294967295
  /-- The pumped total saturates (R109). -/
  pumped : q.pumped ≤ 281474976710655

/-- Every Order Queue is sound. -/
def State.QueuesSound (s : State) : Prop := ∀ d, (s.queues.get d).Sound s.river.closure.isSome

/-- Credits that reach a queue one after another, each by R152; ORDER_FINISHED and COMPLETION_OVERFLOW are owed where one of them
owes it. -/
def OrderQueue.takeCredits (q : OrderQueue) (closed : Bool) (now : Second) : List Nat → QueueEffect
  | [] => { queue := q }
  | c :: cs =>
    let e := q.credit closed now c
    let r := e.queue.takeCredits closed now cs
    { queue := r.queue, finished := e.finished || r.finished, overflowed := e.overflowed || r.overflowed }

/-- The credits the RUNNING units owe to district `d`, in ascending unit number; a credit of 0 is not sent (R149, R150). -/
def State.creditsFor (s : State) (d : District) : List Nat :=
  (unitIds.filter fun i => decide ((s.units.get i).commandedBay = d ∧ (s.units.get i).owes s.clock ≠ 0)).map fun i =>
    (s.units.get i).owes s.clock

/-! ### Bays and the river -/

/-- What R6, R8, R11, R12 and R15 promise of a bay record while the part is up. -/
structure Bay.Sound (b : Bay) : Prop where
  /-- An absent report has age 0 (R6). -/
  age : b.reported = none → b.age = 0
  /-- The level used is the one R8 gives: the report while it is FRESH or STALE, at least the float level under a high
  float, and the float level without a usable report. -/
  levelUsed : b.levelUsed =
    match b.reported with
    | none => b.cfg.floatLevel
    | some l => if 300 ≤ b.age then b.cfg.floatLevel else if b.floatInput = true then max l b.cfg.floatLevel else l
  /-- LOW_SUCTION is clear under a high float or at floor + 100 and above, and set below the floor (R15). -/
  suctionClear : b.floatInput = true ∨ b.cfg.floor + 100 ≤ b.levelUsed → b.lowSuction = false
  suctionSet : b.floatInput = false → b.levelUsed < b.cfg.floor → b.lowSuction = true
  /-- A high float calls for pumping (R11, R12). -/
  demand : b.floatInput = true → b.floatDemand = true
  /-- In SELF_CLEARING mode a low float does not (R11). -/
  selfClearing : b.cfg.floatMode = .selfClearing → b.floatInput = false → b.floatDemand = false

/-- What R20, R113 and R121 promise of the river record while the part is up. -/
structure River.Sound (r : River) : Prop where
  /-- An absent stage report has age 0 (R20). -/
  stageAge : r.stage = none → r.stageAge = 0
  /-- LIVE until 120 s of silence (R113). -/
  live : r.capStatus = .live → r.silence < 120
  /-- HELD from 120 to 719 s of silence (R113). -/
  held : r.capStatus = .held → 120 ≤ r.silence ∧ r.silence < 720
  /-- The stability age is 0 or 1, and 0 while the code seen is in force (R121). -/
  pselAge : r.pselAge ≤ 1
  pselSettled : r.pselSeen = r.profile → r.pselAge = 0

/-- The bay and river records are sound while the part is up. -/
def State.WaterSound (s : State) : Prop := s.resetN = true → (∀ d, (s.bays.get d).Sound) ∧ s.river.Sound

/-! ### Configuration -/

/-- A class record in its ranges and in the shape of R24 and R26. -/
def CurveClass.InRange (c : CurveClass) : Prop :=
  (∀ h ∈ c.heads.toList, h ≤ 20000) ∧ c.heads.toList.Pairwise (· < ·)
    ∧ (∀ q ∈ c.flows.toList, q ≤ 12000) ∧ c.flows.toList.Pairwise (fun a b => b ≤ a)
    ∧ c.qMin ≤ c.flows.a0 ∧ 1 ≤ c.power ∧ c.power ≤ 4000

/-- A unit configuration in the ranges of R39. -/
def UnitConfig.InRange (c : UnitConfig) : Prop :=
  (c.reach.a0 || c.reach.a1 || c.reach.a2) = true
    ∧ 60 ≤ c.minRun ∧ c.minRun ≤ 3600 ∧ 60 ≤ c.minRest ∧ c.minRest ≤ 3600 ∧ 1 ≤ c.maxStarts ∧ c.maxStarts ≤ 6
    ∧ 5 ≤ c.startTimeout ∧ c.startTimeout ≤ 120 ∧ 5 ≤ c.stopTimeout ∧ c.stopTimeout ≤ 300
    ∧ 10 ≤ c.travelTimeout ∧ c.travelTimeout ≤ 600

/-- A bay configuration in the ranges of R4, its float level at least floor + 100 (R17). -/
def BayConfig.InRange (c : BayConfig) : Prop :=
  -9999 ≤ c.floor ∧ c.floor ≤ 9999 ∧ -9999 ≤ c.floatLevel ∧ c.floatLevel ≤ 9999 ∧ c.floor + 100 ≤ c.floatLevel
    ∧ 1 ≤ c.weight ∧ c.weight ≤ 15

/-- The station items in the ranges of R186. -/
def StationConfig.InRange (c : StationConfig) : Prop :=
  -2000 ≤ c.sill ∧ c.sill ≤ 15000 ∧ c.fallbackCap ≤ 60000 ∧ (∀ b ∈ c.budgets.toList, b ≤ 20000)
    ∧ ∀ t ∈ c.spacings.toList, t ≤ 600

/-- A whole configuration in its ranges. -/
def WorkingConfig.InRange (w : WorkingConfig) : Prop :=
  (∀ c, (w.curves.get c).InRange) ∧ (∀ i, (w.units.get i).InRange) ∧ (∀ d, (w.bays.get d).InRange)
    ∧ w.station.InRange

/-- Every configuration the part holds is in range: the working one, every pending one, the copy of a commit and a stored
image that passes its check (R24, R39, R17, R186). -/
structure State.ConfigSound (s : State) : Prop where
  working : s.working.InRange
  pending : ∀ i c, (s.units.get i).pendingCfg = some c → c.InRange
  commit : ∀ c, s.store.commit = some c → c.copy.InRange
  image : ∀ w, s.store.image = .passing w → w.InRange

/-- The values R38, R81, R111 bound by the configuration: estimates, start histories and the cap. -/
structure State.ValuesSound (s : State) : Prop where
  /-- An estimate is 0 to 12,000 L/s (R38). -/
  estimate : ∀ i, (s.units.get i).estimate ≤ 12000
  /-- A start history holds at most 6 entries (R81). -/
  history : ∀ i, (s.units.get i).history.length ≤ 6
  /-- The cap is 0 to 60,000 L/s (R111). -/
  cap : s.river.cap ≤ 60000

/-! ### The evaluation, stage by stage (chapter 7)

`us`, `vs` are unit records as a stage finds and leaves them, `w` is the entitlement table with the demand, urgency and entitlement
of stage 3. -/

/-- The one of `among` with the largest key, ties to the lower number. -/
def IsLargest {n : Nat} (among : Fin n → Prop) (key : Fin n → Int) (x : Fin n) : Prop :=
  among x ∧ ∀ y, among y → key y < key x ∨ (key y = key x ∧ x ≤ y)

/-- Sum over the unit records. -/
def totalOf (us : Oct UnitRec) (f : UnitRec → Nat) : Nat := (unitIds.map fun i => f (us.get i)).sum

/-- Use of a district (R132). -/
def useOf (us : Oct UnitRec) (d : District) : Nat :=
  totalOf us fun u => if u.onDuty ∧ u.commandedBay = d then u.estimate else 0

/-- Deficit E − U of a district (R132). -/
def deficitOf (w : Tri Row) (us : Oct UnitRec) (d : District) : Int := ((w.get d).entitlement : Int) - (useOf us d : Int)

/-- The head of a bay (R20, R21, R23). -/
def State.headOf (s : State) (d : District) : Nat :=
  let used : Int := if s.river.stage = none ∨ 300 ≤ s.river.stageAge then s.station.sill else s.river.stage.getD 0
  (max 0 (min 20000 (max used s.station.sill - (s.bays.get d).levelUsed))).toNat

/-- The flow of a unit's class at the head of a bay (R30, R34). -/
def State.flowOf (s : State) (u : UnitRec) (d : District) : Nat := (s.curves.get u.cfg.cls).flowAt (s.headOf d)

/-- The estimate stage 1 gives a unit (R31, R32): at the commanded bay; held in STOPPING; of an uncommanded unit at SELPOS, or the
largest over its reach between positions; 0 in OFFLINE and TRIPPED with ATSPEED low. -/
def State.estimateOf (s : State) (u : UnitRec) : Nat :=
  let reached (d : District) : Nat := if u.cfg.reach.get d = true then s.flowOf u d else 0
  if u.state = .stopping then u.estimate
  else if u.state = .offline ∨ u.state = .tripped then
    if u.atSpeed = true then
      match u.selPos with
      | 0 => s.flowOf u 0
      | 1 => s.flowOf u 1
      | 2 => s.flowOf u 2
      | 3 => max (reached 0) (max (reached 1) (reached 2))
    else 0
  else s.flowOf u u.commandedBay

/-- Rated power of a unit (R36). -/
def State.powerOf (s : State) (u : UnitRec) : Nat := (s.curves.get u.cfg.cls).power

/-- The class q_min of a unit (R35). -/
def State.leastOf (s : State) (u : UnitRec) : Nat := (s.curves.get u.cfg.cls).qMin

/-- Committed power (R128). -/
def State.powerDrawn (s : State) (us : Oct UnitRec) : Nat :=
  totalOf us fun u => if u.onDuty ∨ u.state = .stopping ∨ u.loose then s.powerOf u else 0

/-- Run-down power (R128). -/
def State.powerEnding (s : State) (us : Oct UnitRec) : Nat :=
  totalOf us fun u => if u.state = .stopping then s.powerOf u else 0

/-- Commanded plus uncommanded discharge (R128). -/
def dischargeOf (us : Oct UnitRec) : Nat := totalOf us fun u => if u.onDuty ∨ u.loose then u.estimate else 0

/-- Free capacity, signed (R128). -/
def State.freeOf (s : State) (us : Oct UnitRec) : Int :=
  (s.river.cap : Int) - (dischargeOf us : Int)
    - ((totalOf us fun u => if u.state = .stopping then u.estimate else 0 : Nat) : Int)

/-- The budget of the profile in force admits this power; profile 3 has no limit (R122). -/
def State.budgetAdmits (s : State) (power : Nat) : Prop :=
  match s.river.profile with
  | 0 => power ≤ s.station.budgets.a0
  | 1 => power ≤ s.station.budgets.a1
  | 2 => power ≤ s.station.budgets.a2
  | 3 => True

/-- Stage 1 (R33, R128): every unit has its new estimate, and the credit mark of a RUNNING one is now. -/
def State.EstimatesGiven (s : State) (us : Oct UnitRec) : Prop :=
  ∀ i,
    let u := s.units.get i
    us.get i =
      { u with estimate := s.estimateOf u, creditMark := if u.state = .running then s.clock else u.creditMark }

/-- Stage 2 (R129): HEAD below q_min, else SUCTION at a bay in LOW_SUCTION. -/
def State.ProtectiveStops (s : State) (us vs : Oct UnitRec) : Prop :=
  ∀ i,
    let u := us.get i
    vs.get i =
      if u.onDuty ∧ u.estimate < s.leastOf u then u.stoppedBy s.clock .head
      else if u.onDuty ∧ (s.bays.get u.commandedBay).lowSuction = true then u.stoppedBy s.clock .suction
      else u

/-- One shed stop (R133): of the district with the largest U − E among those with a unit in STARTING or RUNNING, the unit with the
largest key. -/
def State.ShedStop (s : State) (w : Tri Row) (why : StopReason) (key : UnitRec → Nat) (us vs : Oct UnitRec) : Prop :=
  ∃ (d : District) (i : UnitId),
    IsLargest (fun d => ∃ j, (us.get j).onDuty ∧ (us.get j).commandedBay = d) (fun d => -deficitOf w us d) d
    ∧ IsLargest (fun j => (us.get j).onDuty ∧ (us.get j).commandedBay = d) (fun j => (key (us.get j) : Int)) i
    ∧ vs = us.set i ((us.get i).stoppedBy s.clock why)

/-- One half of the shed (R134, R135): one stop after another while the limit is exceeded and some unit is in STARTING or
RUNNING. -/
inductive State.ShedRun (s : State) (w : Tri Row) (why : StopReason) (key : UnitRec → Nat) (exceeded : Oct UnitRec → Prop) :
    Oct UnitRec → Oct UnitRec → Prop where
  | done {us : Oct UnitRec} : (¬exceeded us ∨ ∀ i, ¬(us.get i).onDuty) → ShedRun s w why key exceeded us us
  | stop {us vs ws : Oct UnitRec} : exceeded us → s.ShedStop w why key us vs → ShedRun s w why key exceeded vs ws →
      ShedRun s w why key exceeded us ws

/-- Stage 4: the power half by rated power, then the cap half by estimate (R133 to R135). -/
def State.ShedStage (s : State) (w : Tri Row) (us ws : Oct UnitRec) : Prop :=
  ∃ vs,
    s.ShedRun w .shedPower s.powerOf (fun us => ¬s.budgetAdmits (s.powerDrawn us - s.powerEnding us)) us vs
    ∧ s.ShedRun w .shedCap UnitRec.estimate (fun us => s.river.cap < dischargeOf us) vs ws

/-- Stage 5 (R136): NO_DEMAND for a STARTING or hold-expired RUNNING unit of a district that is not demanding. -/
def State.DemandStops (s : State) (w : Tri Row) (us vs : Oct UnitRec) : Prop :=
  ∀ i,
    let u := us.get i
    vs.get i =
      if (w.get u.commandedBay).demanding = false ∧ (u.state = .starting ∨ u.heldNoMore) then u.stoppedBy s.clock .noDemand
      else u

/-- Conditions 1 to 4 of R137 for unit `i` and district `d`. -/
def State.ReadyFor (s : State) (us : Oct UnitRec) (d : District) (i : UnitId) : Prop :=
  let u := us.get i
  u.state = .idle ∧ u.avail = true ∧ u.commandedBay = d ∧ u.selPos.val = d.val ∧ u.history.length < u.cfg.maxStarts
    ∧ s.leastOf u ≤ u.estimate

/-- Condition 6 of R137: the estimate fits the share, or the district has no use. -/
def FitsShareOf (w : Tri Row) (us : Oct UnitRec) (d : District) (i : UnitId) : Prop :=
  (us.get i).estimate + useOf us d ≤ (w.get d).entitlement ∨ useOf us d = 0

/-- Unit `i` is a candidate for district `d` (R137). -/
def State.CandidateFor (s : State) (w : Tri Row) (us : Oct UnitRec) (d : District) (i : UnitId) : Prop :=
  (w.get d).demanding = true ∧ s.ReadyFor us d i ∧ s.budgetAdmits (s.powerDrawn us + s.powerOf (us.get i))
    ∧ FitsShareOf w us d i ∧ ((us.get i).estimate : Int) ≤ s.freeOf us

/-- A starved district (R138). -/
def State.StarvedAt (s : State) (w : Tri Row) (us : Oct UnitRec) (d : District) : Prop :=
  (w.get d).demanding = true ∧ 0 < deficitOf w us d ∧ (∀ i, ¬s.CandidateFor w us d i)
    ∧ ∃ i, s.ReadyFor us d i ∧ FitsShareOf w us d i

/-- A district that can be the donor (R139). -/
def DonorAt (w : Tri Row) (us : Oct UnitRec) (d : District) : Prop :=
  deficitOf w us d < 0 ∧ ∃ i, (us.get i).heldNoMore ∧ (us.get i).commandedBay = d

/-- Stage 6 (R138, R139): the starved flags, and the REBALANCE stop of the donor's largest hold-expired unit where a district is
starved and a donor exists. -/
def State.RebalanceStage (s : State) (w : Tri Row) (us vs : Oct UnitRec) : Prop :=
  (∀ d, (w.get d).starved = true ↔ s.StarvedAt w us d)
  ∧ (((∀ d, (w.get d).starved = false) ∨ ∀ d, ¬DonorAt w us d) → vs = us)
  ∧ ((∃ d, (w.get d).starved = true) → (∃ d, DonorAt w us d) →
      ∃ (d : District) (i : UnitId),
        IsLargest (DonorAt w us) (fun d => -deficitOf w us d) d
        ∧ IsLargest (fun j => (us.get j).heldNoMore ∧ (us.get j).commandedBay = d) (fun j => ((us.get j).estimate : Int)) i
        ∧ vs = us.set i ((us.get i).stoppedBy s.clock .rebalance))

/-- District `a` comes before `b` in dispatch priority: by urgency, then by the larger deficit, then by the lower number
(R140). -/
def ComesBefore (w : Tri Row) (us : Oct UnitRec) (a b : District) : Prop :=
  let rank (d : District) : Nat :=
    match (w.get d).urgency with
    | none => 0
    | some .routine => 1
    | some .high => 2
    | some .emergency => 3
  rank b < rank a
    ∨ (rank b = rank a ∧ (deficitOf w us b < deficitOf w us a ∨ (deficitOf w us b = deficitOf w us a ∧ a < b)))

/-- The first of `among` in dispatch priority. -/
def IsFirst (w : Tri Row) (us : Oct UnitRec) (among : District → Prop) (d : District) : Prop :=
  among d ∧ ∀ e, among e → e = d ∨ ComesBefore w us d e

/-- The start slot is open (R140, R122). -/
def State.SlotIsOpen (s : State) : Prop :=
  ∀ l, s.disp.lastStart = some l →
    (match s.river.profile with
      | 0 => s.station.spacings.a0
      | 1 => s.station.spacings.a1
      | 2 => s.station.spacings.a2
      | 3 => 0) ≤ (s.clock - l).toNat

/-- Stage 7 (R140): with the slot open and a candidate anywhere, the best candidate of the district first in dispatch priority is
started; `last` is the last station start after the stage. -/
def State.StartStage (s : State) (w : Tri Row) (us vs : Oct UnitRec) (last : Option Second) : Prop :=
  (¬s.SlotIsOpen ∨ (∀ d i, ¬s.CandidateFor w us d i) → vs = us ∧ last = s.disp.lastStart)
  ∧ (s.SlotIsOpen → (∃ d i, s.CandidateFor w us d i) →
      ∃ (d : District) (i : UnitId),
        IsFirst w us (fun d => ∃ j, s.CandidateFor w us d j) d
        ∧ IsLargest (s.CandidateFor w us d) (fun j => ((us.get j).estimate : Int)) i
        ∧ vs = us.set i ((us.get i).startedAt s.clock) ∧ last = some s.clock)

/-- Unit `i` may be switched to bay `d` (R143). -/
def State.SwitchableTo (s : State) (w : Tri Row) (us : Oct UnitRec) (d : District) (i : UnitId) : Prop :=
  let u := us.get i
  (u.state = .idle ∨ u.state = .resting) ∧ u.avail = true ∧ u.cfg.reach.get d = true
    ∧ (w.get u.commandedBay).demanding = false ∧ u.pendingCfg = none ∧ s.leastOf u ≤ s.flowOf u d

/-- Stage 8 (R142, R143): of the demanding districts with a deficit and without a candidate in stage 7, which found `us`, the first
in dispatch priority that yields a unit gets the one with the largest estimate at its bay. -/
def State.SwitchStage (s : State) (w : Tri Row) (us vs ws : Oct UnitRec) : Prop :=
  let served (d : District) : Prop :=
    (w.get d).demanding = true ∧ 0 < deficitOf w vs d ∧ (∀ i, ¬s.CandidateFor w us d i) ∧ ∃ i, s.SwitchableTo w vs d i
  ((∀ d, ¬served d) → ws = vs)
  ∧ ((∃ d, served d) →
      ∃ (d : District) (i : UnitId),
        IsFirst w vs served d ∧ IsLargest (s.SwitchableTo w vs d) (fun j => (s.flowOf (vs.get j) d : Int)) i
        ∧ ws = vs.set i ((vs.get i).switchedTo d))

/-- The eight stages between the part `s` that an evaluation finds and the part `t` that it leaves; stage 3 leaves the unit records
alone, and demand, urgency and entitlement in the table. -/
def State.StagesTaken (s t : State) : Prop :=
  let w := t.disp.table
  ∃ u1 u2 u4 u5 u6 u7 : Oct UnitRec,
    s.EstimatesGiven u1 ∧ s.ProtectiveStops u1 u2 ∧ s.ShedStage w u2 u4 ∧ s.DemandStops w u4 u5 ∧ s.RebalanceStage w u5 u6
    ∧ s.StartStage w u6 u7 t.disp.lastStart ∧ s.SwitchStage w u6 u7 t.units

/-! ### The state after a reset -/

/-- The unit record after a reset (R69, R70) from its lines and its configuration in force; `run` is its run-down where the
motor runs (R37). -/
def UnitRec.resetTo (u : UnitRec) (c : UnitConfig) (run : Nat) : UnitRec :=
  let bay : District :=
    match u.selPos with
    | 0 => 0
    | 1 => 1
    | 2 => 2
    | 3 => if c.reach.a0 = true then 0 else if c.reach.a1 = true then 1 else 2
  let serves := u.avail = true ∧ c.enable = true
  let zero : Timer := { left := 0, due := false }
  { state :=
      if u.atSpeed = true then .stopping
      else if serves then if u.selPos = 3 then .tripped else .resting else .offline
    tripReason := if u.atSpeed = false ∧ serves ∧ u.selPos = 3 then some .selector else none
    stopReason := none, commandedBay := bay, selPos := u.selPos, avail := u.avail, atSpeed := u.atSpeed
    runReq := false, selCmd := some bay
    estimate := if u.atSpeed = true then run else 0
    creditMark := 0, runHold := zero
    rest := if u.atSpeed = false ∧ serves ∧ u.selPos ≠ 3 then { left := c.minRest, due := false } else zero
    stateTimer := if u.atSpeed = true then { left := c.stopTimeout, due := false } else zero
    history := [], cfg := c, pendingCfg := none, clearedBy := none }

/-- Every block of `t` is in its state after reset, taken from the lines of `s` and the working configuration of `t` (R18, R22,
R37, R69, R70, R110, R123, R147, R160, R184). Frame length, running sum, status segment and response of a port: log entry 8. -/
structure State.BlocksReset (s t : State) : Prop where
  clock : t.clock = 0
  bays : ∀ d,
    let line := (s.bays.get d).floatInput
    let c := (t.bays.get d).cfg
    t.bays.get d =
      { reported := none, age := 0, ageDue := false, floatInput := line, floatDemand := line, lowSuction := false
        levelUsed := c.floatLevel, cfg := c }
  river : t.river =
    { stage := none, stageAge := 0, stageDue := false, cap := t.station.fallbackCap, capStatus := .fallback, silence := 0
      silenceDue := false, closure := some .reset, pselSeen := s.river.pselSeen, pselAge := 0, profileDue := false
      profile := s.river.pselSeen }
  /-- The run-down of a running motor is its estimate under the heads from sill to float level: at SELPOS, or the largest
  over its reach with the selector between positions. -/
  units : ∀ i,
    let u := s.units.get i
    let c := (t.units.get i).cfg
    let at_ (d : District) : Nat :=
      (t.curves.get c.cls).flowAt (max 0 (min 20000 (t.station.sill - (t.bays.get d).cfg.floatLevel))).toNat
    let reached (d : District) : Nat := if c.reach.get d = true then at_ d else 0
    let run : Nat :=
      match u.selPos with
      | 0 => at_ 0
      | 1 => at_ 1
      | 2 => at_ 2
      | 3 => max (reached 0) (max (reached 1) (reached 2))
    t.units.get i = u.resetTo c run
  queues : ∀ d, t.queues.get d =
    { orders := [], gateOpen := false, completions := [], unordered := 0, pumped := 0, readDrops := 0 }
  disp : t.disp =
    { request := false, evalDue := false
      table := Tri.ofFn fun _ =>
        { demanding := false, urgency := none, weight := 0, entitlement := 0, use := 0, deficit := 0, starved := false }
      lastEval := none, lastStart := none
      sums := { commanded := 0, uncommanded := 0, rundown := 0, free := 0, committedPower := 0, rundownPower := 0 }
      capUsed := 0, budgetUsed := some 0 }
  /-- POWER_UP alone, every kind masked, the line released, the buffer empty (R184). -/
  notices : ∀ p, t.notices.get p =
    { set := 1, mask := BitVec.allOnes 14, since := 1, attn := false
      buffer := Oct.ofFn fun _ => { status := none, timers := none } }
  ports : ∀ p, t.ports.get p =
    { selN := (s.ports.get p).selN, phase := .idle, position := 0, code := none, frameLength := 2, sum := 0
      status := (0, 0), response := [], frameShort := false, endAction := .none }

/-- The invariant of the part. -/
structure State.Inv (s : State) : Prop where
  attention : s.AttentionSound
  units : s.UnitsSound
  closure : s.ClosureHolds
  queues : s.QueuesSound
  water : s.WaterSound
  config : s.ConfigSound
  values : s.ValuesSound

end Sys2Proof.Machine
end

