-- ==== Sys2Proof/WellFormed.lean ====
section
/-! DEFINITION. The operands that name their own row and no other row. A frame field out of its range is no ill-formed
term: the part takes it and answers (R91, R186). -/

namespace Sys2Proof

/-- UNKNOWN_COMMAND carries a code that the command table does not hold (R167); the bytes of SHORT_TRANSACTION end before
their check byte (R166). Every other row is well formed with any operands. -/
def Instr.wf : Instr → Bool
  | .unknownCommand _ code _ => (commandRow code).isNone
  | .shortTransaction _ bytes => isShort bytes
  | .nop .. | .readNotices .. | .setNoticeMask .. | .readStation .. | .readUnit .. | .readAllocation ..
  | .snapshot .. | .readSnapshot .. | .clearTrip .. | .readBay .. | .reportLevel .. | .postOrder ..
  | .cancelOrder .. | .setUrgency .. | .openQueue .. | .closeQueue .. | .readQueue .. | .readCompletions ..
  | .ackFloat .. | .clearUnordered .. | .setCap .. | .reportStage .. | .closeStation .. | .liftClosure ..
  | .writeCurve .. | .writeUnitConfig .. | .writeBayConfig .. | .writeStationConfig .. | .commitConfig ..
  | .readConfig .. | .stationReset .. | .selNFall .. | .endOfTransaction .. | .powerOn .. | .resetNFall ..
  | .resetNRise .. | .secondMark .. | .freshnessFall .. | .stageFreshnessFall .. | .capStatusHeld ..
  | .fallbackEvent .. | .profileComesIntoForce .. | .runHoldExpiry .. | .restExpiry .. | .startTimeoutExpiry ..
  | .stopTimeoutExpiry .. | .travelTimeoutExpiry .. | .startHistoryAgeing .. | .deadlineExpiry ..
  | .commitEnd .. | .evaluation .. | .floatLineRise .. | .floatLineFall .. | .availRise .. | .availFall ..
  | .atspeedRise .. | .atspeedFall .. | .selposChange .. | .pselChange .. | .svcChange .. | .selNRiseInIdle .. => true

end Sys2Proof
end

