-- ==== Sys2Proof/Certificates/Slice0/Obligations.lean ====
section
/-! DEFINITION. The statements for the provers, from the numbered rules of spec/: the queue, the frames, the commands of each
role, the edges and resets, the second mark and its events, the evaluation, the lines, and the invariants. -/

section ObligationStatements

open Sys2Proof Sys2Proof.Machine

/-! ### The queue -/

/-- A step takes the command that has waited longest and carries it out with the rest of the queue; with no command waiting
the part idles (the model's choice, log entry 1). -/
def Obligations.StepTakesTheFrontCommand : Prop :=
  (∀ (c : Instr) (s : State) (rest : List Instr),
    step { s with pending := c :: rest } = exec c { s with pending := rest })
  ∧ ∀ s : State, s.pending = [] → step s = .next s

/-- A command leaves the queue alone and never faults. It is refused only where its operands spell another row, or where it
names a rise of SEL_n that belongs to another phase (the model's choice, log entry 13). -/
def Obligations.ExecKeepsTheQueueAndNeverFaults : Prop :=
  ∀ (c : Instr) (s : State),
    match exec c s with
    | .next t => c.wf = true ∧ t.pending = s.pending
    | .fault _ => False
    | .refused .illFormed => c.wf = false
    | .refused .otherPhase =>
      c.wf = true ∧ ∃ p ph, c.riseOf = some (p, ph) ∧ s.resetN = true ∧ (s.ports.get p).selN = false
        ∧ (s.ports.get p).phase ≠ ph
    | .refused (.notModelled _) => False

/-! ### Frames (chapter 9) -/

/-- A frame outside RECEIVING has no command taken: held in reset and in IDLE nothing changes, in ANSWERING the position
counts its bytes. -/
def Obligations.FrameOutsideReceiving : Prop :=
  ∀ (c : Instr) (f : Frame) (s : State), c.wf = true → c.frame? = some f →
    (s.resetN = false → exec c s = .next s)
    ∧ (s.resetN = true → (s.ports.get f.port).phase = .idle → exec c s = .next s)
    ∧ (s.resetN = true → (s.ports.get f.port).phase = .answering →
        exec c s = .next
          { s with
            ports := s.ports.set f.port
              { s.ports.get f.port with position := min 65535 ((s.ports.get f.port).position + f.bytes.length) } })

/-- A frame whose sum is not 90 is answered BAD_CHECK (10) and does nothing else; a valid frame that one of the steps 1 to 4 of
R167 refuses is heard, answered with that step's code alone (11, 12, 13, 14) and does nothing else. Whatever the answer to the
first frame of a transaction, the part sends the status segment at positions 1 and 2, 0 up to the frame length, the answer from
there on and 0 beyond it. -/
def Obligations.FramesAreJudgedInOrder : Prop :=
  ∀ (c : Instr) (f : Frame) (s : State), c.wf = true → c.frame? = some f → s.receives f →
    (f.runningSum ≠ 90 → exec c s = .next (s.answer f [0x10]))
    ∧ (∀ r, f.runningSum = 90 → s.portRefusal f = some r →
        exec c s = .next ((s.heardOn f.port).answer f [r]))
    ∧ ((s.ports.get f.port).code = none → (s.ports.get f.port).selN = false →
        ∃ (t : State) (r : List Byte), exec c s = .next t ∧ (t.ports.get f.port).response = r
          ∧ t.dataOut f.port 1 = some (s.ports.get f.port).status.1
          ∧ t.dataOut f.port 2 = some (s.ports.get f.port).status.2
          ∧ (∀ k, 2 < k → k ≤ f.bytes.length → t.dataOut f.port k = some 0)
          ∧ ∀ k, t.dataOut f.port (f.bytes.length + 1 + k) = some (r[k]?.getD 0))

/-- A valid frame on the river port, whatever it carries and however it is answered, restarts the silence and leaves the cap
status LIVE, with CAP_CHANGED in every set where it was HELD or FALLBACK; a frame on a district port does neither. -/
def Obligations.ValidRiverFrameRestartsSilence : Prop :=
  ∀ (c : Instr) (f : Frame) (s : State), c.wf = true → c.frame? = some f → s.receives f → f.runningSum = 90 →
    ∃ t : State, exec c s = .next t
      ∧ (f.port = .river →
          t.river.silence = 0 ∧ t.river.capStatus = .live
            ∧ (s.river.capStatus ≠ .live → ∀ p, holds (t.notices.get p).set .capChanged = true))
      ∧ (f.port ≠ .river → t.river.silence = s.river.silence ∧ t.river.capStatus = s.river.capStatus)

/-! ### Notices (chapter 10) -/

/-- A post adds the kind to the set of each port it goes to, and to no other set, and drives the attention line: asserted
exactly while the set holds an unmasked kind. The kind counts as posted since the last READ NOTICES response of those ports (the
model's own record of it, log entry 11). Mask and snapshot buffer stay. -/
def Obligations.PostAddsTheKind : Prop :=
  ∀ (s : State) (k j : NoticeKind) (p q : PortId),
    let a := s.postAll k
    let b := s.postTo p k
    holds (a.notices.get q).set j = (holds (s.notices.get q).set j || decide (j = k))
    ∧ holds (b.notices.get q).set j = (holds (s.notices.get q).set j || decide (j = k ∧ q = p))
    ∧ holds (a.notices.get q).since j = (holds (s.notices.get q).since j || decide (j = k))
    ∧ holds (b.notices.get q).since j = (holds (s.notices.get q).since j || decide (j = k ∧ q = p))
    ∧ (a.notices.get q).attnSound true ∧ (b.notices.get p).attnSound true
    ∧ (a.notices.get q).mask = (s.notices.get q).mask ∧ (a.notices.get q).buffer = (s.notices.get q).buffer
    ∧ (b.notices.get p).mask = (s.notices.get p).mask ∧ (b.notices.get p).buffer = (s.notices.get p).buffer
    ∧ (q ≠ p → b.notices.get q = s.notices.get q)
    ∧ { a with notices := s.notices } = s ∧ { b with notices := s.notices } = s

/-- NOP is answered OK and a frame of an unknown code UNKNOWN_COMMAND; neither changes a block but by being heard on the
river port. The row UNKNOWN_COMMAND with a code of the table is refused as ill formed (the model's choice, log entry 13). -/
def Obligations.NopAndUnknownCommandAnswerAlone : Prop :=
  ∀ (p : PortId) (code chk : Byte) (s : State),
    (s.accepts ⟨p, 0x01, [], chk⟩ →
      exec (.nop p chk) s = .next ((s.heardOn p).answer ⟨p, 0x01, [], chk⟩ [0x00]))
    ∧ (code.toNat ∉ commandCodes → s.receives ⟨p, code, [], chk⟩ → Frame.runningSum ⟨p, code, [], chk⟩ = 90 →
      exec (.unknownCommand p code chk) s = .next ((s.heardOn p).answer ⟨p, code, [], chk⟩ [0x11]))
    ∧ (code.toNat ∈ commandCodes → exec (.unknownCommand p code chk) s = .refused .illFormed)

/-- READ NOTICES returns the set, kinds 13 to 8 in the first byte and kinds 7 to 0 in the second, and changes no set, no mask
and no line; the kinds returned wait for the rise of SEL_n. On the river port the set is that of the part after it has heard
the frame, with a CAP_CHANGED that the frame itself posts (deduced, log entry 12). -/
def Obligations.ReadNoticesReturnsTheSet : Prop :=
  ∀ (p : PortId) (chk : Byte) (s : State), s.accepts ⟨p, 0x03, [], chk⟩ →
    let h := s.heardOn p
    let n := h.notices.get p
    ∃ hi lo : Byte,
      (∀ k < 8, hi.getLsbD k = n.set.getLsbD (8 + k)) ∧ (∀ k < 8, lo.getLsbD k = n.set.getLsbD k)
      ∧ exec (.readNotices p chk) s = .next
          ({ h with notices := h.notices.set p { n with since := 0 } }.answer ⟨p, 0x03, [], chk⟩ [0x00, hi, lo]
            (.clearNotices n.set))

/-- The rise of SEL_n after a READ NOTICES clears each kind that was returned, went out in full and has not been posted since;
the line is driven again and nothing else changes. -/
def Obligations.EndOfReadNoticesClears : Prop :=
  ∀ (p : PortId) (n : Nat) (returned : BitVec 14) (s : State),
    let x := s.ports.get p
    s.resetN = true → x.selN = false → x.phase = .answering → x.endAction = .clearNotices returned →
    let out := min 65535 (x.position + n) - x.frameLength
    let old := s.notices.get p
    ∃ set, (∀ j < 14, set.getLsbD j =
          (old.set.getLsbD j && !(returned.getLsbD j && decide ((if 8 ≤ j then 2 else 3) ≤ out)
            && !old.since.getLsbD j)))
      ∧ exec (.endOfTransaction p n) s = .next
          { s with
            notices := s.notices.set p { old with set := set, attn := decide (set &&& ~~~old.mask ≠ 0) }
            ports := s.ports.set p
              { x with
                selN := true, phase := .idle, position := min 65535 (x.position + n), endAction := .none } }

/-- SET NOTICE MASK replaces the mask of its own port, bits 15 and 14 ignored, and drives the line. -/
def Obligations.SetNoticeMaskReplacesTheMask : Prop :=
  ∀ (p : PortId) (mask : BitVec 16) (chk : Byte) (s : State), s.accepts ⟨p, 0x04, field16 mask, chk⟩ →
    let h := s.heardOn p
    let n := h.notices.get p
    ∃ m : BitVec 14, (∀ k < 14, m.getLsbD k = mask.getLsbD k)
      ∧ exec (.setNoticeMask p mask chk) s = .next
          ({ h with notices := h.notices.set p { n with mask := m, attn := decide (n.set &&& ~~~m ≠ 0) } }.answer
            ⟨p, 0x04, field16 mask, chk⟩ [0x00])

/-- SNAPSHOT latches the selected entries that are not latched yet from the unit records, and leaves latched ones; kind bits 7
to 2 are refused with BAD_VALUE. The age of the oldest start stays within R82's 0 to 3,599 also where its ageing out is due
and not taken yet (deduced, log entry 14). -/
def Obligations.SnapshotLatches : Prop :=
  ∀ (p : PortId) (units kinds chk : Byte) (s : State), s.accepts ⟨p, 0x08, [units, kinds], chk⟩ →
    let h := s.heardOn p
    let n := h.notices.get p
    let f : Frame := ⟨p, 0x08, [units, kinds], chk⟩
    (4 ≤ kinds.toNat → exec (.snapshot p units kinds chk) s = .next (h.answer f [0x20]))
    ∧ (kinds.toNat < 4 →
        ∃ buffer,
          (∀ i : UnitId,
            let u := s.units.get i
            let l := n.buffer.get i
            buffer.get i =
              { status :=
                  if units.getLsbD i.val = true ∧ kinds.getLsbD 0 = true ∧ l.status = none then
                    some
                      { state := u.state, tripReason := u.tripReason, selPos := u.selPos
                        commandedBay := u.commandedBay, estimate := u.estimate
                        configPending := u.pendingCfg.isSome }
                  else l.status
                timers :=
                  if units.getLsbD i.val = true ∧ kinds.getLsbD 1 = true ∧ l.timers = none then
                    some
                      { runHold := u.runHold.left, rest := u.rest.left, stateTimer := u.stateTimer.left
                        historyLength := u.history.length
                        oldestAge := (u.history.head?.map fun t => min 3599 (s.clock - t).toNat).getD 0 }
                  else l.timers })
          ∧ exec (.snapshot p units kinds chk) s = .next
              ({ h with notices := h.notices.set p { n with buffer := buffer } }.answer f [0x00]))

/-- READ SNAPSHOT returns every entry of the port's buffer in ascending unit order, status before timers, in the layout of
R183, and changes no buffer; the entries returned wait for the rise of SEL_n. -/
def Obligations.ReadSnapshotReturnsTheBuffer : Prop :=
  ∀ (p : PortId) (chk : Byte) (s : State), s.accepts ⟨p, 0x09, [], chk⟩ →
    let h := s.heardOn p
    let b := (h.notices.get p).buffer
    let byte (v : Nat) : Byte := BitVec.ofNat 8 v
    let keys : List (UnitId × Bool) := unitIds.flatMap fun i =>
      (if (b.get i).status.isSome = true then [(i, false)] else [])
        ++ if (b.get i).timers.isSome = true then [(i, true)] else []
    let entry (k : UnitId × Bool) : List Byte :=
      match k.2, (b.get k.1).status, (b.get k.1).timers with
      | false, some e, _ =>
        [byte k.1.val, 0, byte e.state.code, byte ((e.tripReason.map TripReason.code).getD 255), byte e.selPos.val,
          byte e.commandedBay.val, byte (e.estimate / 256), byte e.estimate, byte (if e.configPending then 1 else 0)]
      | true, _, some e =>
        [byte k.1.val, 1, byte (e.runHold / 256), byte e.runHold, byte (e.rest / 256), byte e.rest,
          byte (e.stateTimer / 256), byte e.stateTimer, byte e.historyLength, byte (e.oldestAge / 256), byte e.oldestAge]
      | _, _, _ => []
    exec (.readSnapshot p chk) s = .next
      (h.answer ⟨p, 0x09, [], chk⟩ ([0x00, byte keys.length] ++ keys.flatMap entry) (.removeSnapshots keys))

/-- The rise of SEL_n after a READ SNAPSHOT removes the entries that went out in full, a run from the start of the response,
and no other. -/
def Obligations.EndOfReadSnapshotRemoves : Prop :=
  ∀ (p : PortId) (n : Nat) (gone kept : List (UnitId × Bool)) (s : State),
    let x := s.ports.get p
    let size (k : UnitId × Bool) : Nat := if k.2 then 11 else 9
    let out := min 65535 (x.position + n) - x.frameLength - 2
    s.resetN = true → x.selN = false → x.phase = .answering → x.endAction = .removeSnapshots (gone ++ kept) →
    (gone.map size).sum ≤ out → (∀ k ks, kept = k :: ks → out < (gone.map size).sum + size k) →
    let old := (s.notices.get p).buffer
    ∃ buffer,
      (∀ i : UnitId,
        (buffer.get i).status = (if (i, false) ∈ gone then none else (old.get i).status)
        ∧ (buffer.get i).timers = (if (i, true) ∈ gone then none else (old.get i).timers))
      ∧ exec (.endOfTransaction p n) s = .next
          { s with
            notices := s.notices.set p { s.notices.get p with buffer := buffer }
            ports := s.ports.set p
              { x with
                selN := true, phase := .idle, position := min 65535 (x.position + n), endAction := .none } }

/-! ### Reads (chapters 1, 3, 7, 9, 11) -/

/-- READ STATION is answered OK with the fields of R173, and changes nothing. On the river port silence and cap status are those
after the frame is heard, 0 and LIVE (deduced, log entry 12). -/
def Obligations.ReadStationFields : Prop :=
  ∀ (p : PortId) (chk : Byte) (s : State), s.accepts ⟨p, 0x05, [], chk⟩ →
    let h := s.heardOn p
    let v := h.river
    let flag (b : Bool) : Nat := if b = true then 1 else 0
    let fresh : Nat := if v.stage = none ∨ 300 ≤ v.stageAge then 2 else if 60 ≤ v.stageAge then 1 else 0
    ∃ r : List Byte, exec (.readStation p chk) s = .next (h.answer ⟨p, 0x05, [], chk⟩ r)
      ∧ r.length = 34 ∧ fieldAt r 0 1 = 0 ∧ fieldAt r 1 4 = h.clock.toNat
      ∧ fieldAt r 5 1 = flag h.store.defaulted ∧ fieldAt r 6 1 = flag h.store.commit.isSome ∧ fieldAt r 7 1 = flag h.svc
      ∧ fieldAt r 8 2 = v.cap % 65536
      ∧ fieldAt r 10 1 = (match v.capStatus with | .live => 0 | .held => 1 | .fallback => 2)
      ∧ fieldAt r 11 2 = v.silence % 65536
      ∧ fieldAt r 13 1 = (match v.closure with | none => 0 | some .reset => 1 | some .commanded => 2)
      ∧ fieldAt r 14 1 = v.profile.val ∧ fieldAt r 15 1 = v.pselSeen.val ∧ fieldAt r 16 1 = v.pselAge % 256
      ∧ fieldAt r 17 2 = (match v.profile with
          | 0 => h.station.budgets.a0 % 65536 | 1 => h.station.budgets.a1 % 65536
          | 2 => h.station.budgets.a2 % 65536 | 3 => 65535)
      ∧ fieldAt r 19 2 = (match v.profile with
          | 0 => h.station.spacings.a0 % 65536 | 1 => h.station.spacings.a1 % 65536
          | 2 => h.station.spacings.a2 % 65536 | 3 => 0)
      ∧ fieldAt r 21 2 = h.station.fallbackCap % 65536
      ∧ (fieldAt r 23 2 : Int) = h.station.sill % 65536
      ∧ fieldAt r 25 1 = flag v.stage.isSome ∧ (fieldAt r 26 2 : Int) = v.stage.getD 0 % 65536
      ∧ fieldAt r 28 2 = v.stageAge % 65536 ∧ fieldAt r 30 1 = fresh
      ∧ (fieldAt r 31 2 : Int) = (if fresh = 2 then h.station.sill else v.stage.getD 0) % 65536
      ∧ fieldAt r 33 1 = flag h.disp.request

/-- READ UNIT of a unit 0 to 7 is answered OK with the fields of R174, the age of the oldest start within R82's 0 to 3,599,
and of a number above 7 with BAD_VALUE and zeros; it changes nothing. -/
def Obligations.ReadUnitFields : Prop :=
  ∀ (p : PortId) (unit chk : Byte) (s : State), s.accepts ⟨p, 0x06, [unit], chk⟩ →
    let h := s.heardOn p
    let flag (b : Bool) : Nat := if b = true then 1 else 0
    (7 < unit.toNat →
      exec (.readUnit p unit chk) s = .next (h.answer ⟨p, 0x06, [unit], chk⟩ (0x20 :: List.replicate 40 0)))
    ∧ ∀ i : UnitId, unit.toNat = i.val →
        let u := s.units.get i
        ∃ r : List Byte, exec (.readUnit p unit chk) s = .next (h.answer ⟨p, 0x06, [unit], chk⟩ r)
          ∧ r.length = 41 ∧ fieldAt r 0 1 = 0
          ∧ fieldAt r 1 1 = (match u.state with
              | .offline => 0 | .idle => 1 | .resting => 2 | .switching => 3 | .starting => 4 | .running => 5
              | .stopping => 6 | .tripped => 7)
          ∧ fieldAt r 2 1 = (match u.tripReason with
              | some .startTimeout => 0 | some .lostRun => 1 | some .stopTimeout => 2 | some .selector => 3
              | some .travelTimeout => 4 | some .uncommandedRun => 5 | none => 255)
          ∧ fieldAt r 3 1 = (match u.stopReason with
              | some .shedCap => 0 | some .shedPower => 1 | some .closure => 2 | some .head => 3 | some .suction => 4
              | some .noDemand => 5 | some .rebalance => 6 | none => 255)
          ∧ fieldAt r 4 1 = u.commandedBay.val ∧ fieldAt r 5 1 = u.selPos.val
          ∧ fieldAt r 6 1 = flag u.avail ∧ fieldAt r 7 1 = flag u.atSpeed ∧ fieldAt r 8 1 = flag u.runReq
          ∧ fieldAt r 9 1 = (if (u.state = .offline ∨ u.state = .tripped) ∧ u.atSpeed = true then 1 else 0)
          ∧ fieldAt r 10 2 = u.estimate % 65536 ∧ fieldAt r 12 4 = u.creditMark.toNat
          ∧ fieldAt r 16 2 = u.runHold.left % 65536 ∧ fieldAt r 18 2 = u.rest.left % 65536
          ∧ fieldAt r 20 2 = u.stateTimer.left % 65536 ∧ fieldAt r 22 1 = u.history.length % 256
          ∧ (let age := (u.history.head?.map fun t => (s.clock - t).toNat).getD 0
             fieldAt r 23 2 ≤ 3599 ∧ (age ≤ 3599 → fieldAt r 23 2 = age))
          ∧ fieldAt r 25 1 = flag u.pendingCfg.isSome
          ∧ fieldAt r 26 1 = (match u.clearedBy with | some (.district d) => d.val | some .river => 3 | none => 255)
          ∧ fieldAt r 27 1 = flag u.cfg.enable ∧ fieldAt r 28 1 = u.cfg.cls.val
          ∧ fieldAt r 29 1 = flag u.cfg.reach.a0 + 2 * flag u.cfg.reach.a1 + 4 * flag u.cfg.reach.a2
          ∧ fieldAt r 30 2 = u.cfg.minRun % 65536 ∧ fieldAt r 32 2 = u.cfg.minRest % 65536
          ∧ fieldAt r 34 1 = u.cfg.maxStarts % 256 ∧ fieldAt r 35 2 = u.cfg.startTimeout % 65536
          ∧ fieldAt r 37 2 = u.cfg.stopTimeout % 65536 ∧ fieldAt r 39 2 = u.cfg.travelTimeout % 65536

/-- READ ALLOCATION is answered OK with the fields of R146, and changes nothing. -/
def Obligations.ReadAllocationFields : Prop :=
  ∀ (p : PortId) (chk : Byte) (s : State), s.accepts ⟨p, 0x07, [], chk⟩ →
    let x := s.disp
    let flag (b : Bool) : Nat := if b = true then 1 else 0
    ∃ r : List Byte, exec (.readAllocation p chk) s = .next ((s.heardOn p).answer ⟨p, 0x07, [], chk⟩ r)
      ∧ r.length = 77 ∧ fieldAt r 0 1 = 0
      ∧ fieldAt r 1 1 = flag x.lastEval.isSome ∧ fieldAt r 2 4 = (x.lastEval.getD 0).toNat
      ∧ fieldAt r 6 2 = x.capUsed % 65536 ∧ fieldAt r 8 2 = (x.budgetUsed.getD 65535) % 65536
      ∧ fieldAt r 10 4 = x.sums.commanded % 4294967296 ∧ fieldAt r 14 4 = x.sums.uncommanded % 4294967296
      ∧ fieldAt r 18 4 = x.sums.rundown % 4294967296 ∧ (fieldAt r 22 4 : Int) = x.sums.free % 4294967296
      ∧ fieldAt r 26 2 = x.sums.committedPower % 65536 ∧ fieldAt r 28 2 = x.sums.rundownPower % 65536
      ∧ fieldAt r 30 1 = flag x.lastStart.isSome ∧ fieldAt r 31 4 = (x.lastStart.getD 0).toNat
      ∧ ∀ d : District,
          let w := x.table.get d
          let o := 35 + 14 * d.val
          fieldAt r o 1 = flag w.demanding
          ∧ fieldAt r (o + 1) 1 = (match w.urgency with
              | some .routine => 0 | some .high => 1 | some .emergency => 2 | none => 255)
          ∧ fieldAt r (o + 2) 1 = w.weight % 256 ∧ fieldAt r (o + 3) 2 = w.entitlement % 65536
          ∧ fieldAt r (o + 5) 4 = w.use % 4294967296 ∧ (fieldAt r (o + 9) 4 : Int) = w.deficit % 4294967296
          ∧ fieldAt r (o + 13) 1 = flag w.starved

/-- READ BAY of a bay 0 to 2 is answered OK with the fields of R175, the head by R23 and the flow of each class at it; a number
above 2 gets BAD_VALUE and zeros. It changes nothing. -/
def Obligations.ReadBayFields : Prop :=
  ∀ (p : PortId) (bay chk : Byte) (s : State), s.accepts ⟨p, 0x0B, [bay], chk⟩ →
    let h := s.heardOn p
    let flag (b : Bool) : Nat := if b = true then 1 else 0
    (2 < bay.toNat →
      exec (.readBay p bay chk) s = .next (h.answer ⟨p, 0x0B, [bay], chk⟩ (0x20 :: List.replicate 27 0)))
    ∧ ∀ d : District, bay.toNat = d.val →
        let b := s.bays.get d
        let used : Int :=
          if s.river.stage = none ∨ 300 ≤ s.river.stageAge then s.station.sill else s.river.stage.getD 0
        let head : Nat := (max 0 (min 20000 (max used s.station.sill - b.levelUsed))).toNat
        ∃ r : List Byte, exec (.readBay p bay chk) s = .next (h.answer ⟨p, 0x0B, [bay], chk⟩ r)
          ∧ r.length = 28 ∧ fieldAt r 0 1 = 0
          ∧ fieldAt r 1 1 = flag b.reported.isSome ∧ (fieldAt r 2 2 : Int) = b.reported.getD 0 % 65536
          ∧ fieldAt r 4 2 = b.age % 65536
          ∧ fieldAt r 6 1 = (if b.reported = none ∨ 300 ≤ b.age then 2 else if 60 ≤ b.age then 1 else 0)
          ∧ fieldAt r 7 1 = flag b.floatInput ∧ fieldAt r 8 1 = flag b.floatDemand ∧ fieldAt r 9 1 = flag b.lowSuction
          ∧ (fieldAt r 10 2 : Int) = b.levelUsed % 65536 ∧ fieldAt r 12 2 = head
          ∧ (fieldAt r 14 2 : Int) = b.cfg.floor % 65536 ∧ (fieldAt r 16 2 : Int) = b.cfg.floatLevel % 65536
          ∧ fieldAt r 18 1 = (match b.cfg.floatMode with | .selfClearing => 0 | .latched => 1)
          ∧ fieldAt r 19 1 = b.cfg.weight % 256
          ∧ ∀ c : ClassId, fieldAt r (20 + 2 * c.val) 2 = (s.curves.get c).flowAt head % 65536

/-- READ CONFIG returns the record of the working configuration as the arguments of the write that carries it; an index out
of range gets BAD_VALUE and the zeros of the record's length, a kind above 3 BAD_VALUE alone. It changes nothing. -/
def Obligations.ReadConfigReturnsTheRecord : Prop :=
  ∀ (p : PortId) (kind index chk : Byte) (s : State), s.accepts ⟨p, 0x65, [kind, index], chk⟩ →
    ∃ r : List Byte, exec (.readConfig p kind index chk) s = .next ((s.heardOn p).answer ⟨p, 0x65, [kind, index], chk⟩ r)
      ∧ (3 < kind.toNat → r = [0x20])
      ∧ (kind = 0 → 3 < index.toNat → r = 0x20 :: List.replicate 29 0)
      ∧ (kind = 1 → 7 < index.toNat → r = 0x20 :: List.replicate 15 0)
      ∧ (kind = 2 → 2 < index.toNat → r = 0x20 :: List.replicate 7 0)
      ∧ (kind = 0 → ∀ (a : CurveArgs) (c : ClassId), a.cls = index → index.toNat = c.val →
          s.curves.get c = curveRecord a → curveClamped a = false → r = 0x00 :: a.bytes)
      ∧ (kind = 1 → ∀ (a : UnitArgs) (i : UnitId) (c : UnitConfig), a.unit = index → unitRecord a = some (i, c) →
          (s.units.get i).cfg = c → unitClamped a c = false → a.reach.toNat < 8 → r = 0x00 :: a.bytes)
      ∧ (kind = 2 → ∀ (a : BayArgs) (d : District) (c : BayConfig), a.bay = index → bayRecord a = some (d, c) →
          (s.bays.get d).cfg = c → bayClamped a c = false → r = 0x00 :: a.bytes)
      ∧ (kind = 3 → ∀ a : StationArgs, s.station = stationRecord a → stationClamped a = false → r = 0x00 :: a.bytes)

/-- The flow of a class on segment i is Qi less the truncated quotient: at least the exact straight-line value and less than
1 L/s above it; at or below H0 it is Q0 and at or above H5 it is Q5. -/
def Obligations.InterpolationRoundsUp : Prop :=
  ∀ (c : CurveClass) (h : Nat), c.InRange → h ≤ 20000 →
    let hs := c.heads.toList
    let qs := c.flows.toList
    (h ≤ c.heads.a0 → c.flowAt h = c.flows.a0) ∧ (c.heads.a5 ≤ h → c.flowAt h = c.flows.a5)
    ∧ c.flowAt h ≤ 12000
    ∧ ∀ i < 5, ∀ hi hj qi qj, hs[i]? = some hi → hs[i + 1]? = some hj → qs[i]? = some qi → qs[i + 1]? = some qj →
        hi ≤ h → h < hj →
        c.flowAt h = qi - (qi - qj) * (h - hi) / (hj - hi) ∧ qj ≤ c.flowAt h ∧ c.flowAt h ≤ qi
        ∧ qi * (hj - hi) ≤ c.flowAt h * (hj - hi) + (qi - qj) * (h - hi)
        ∧ c.flowAt h * (hj - hi) + (qi - qj) * (h - hi) < (qi + 1) * (hj - hi)

/-! ### The district commands (chapters 1 and 5) -/

/-- REPORT LEVEL takes the level, clamped, restarts its age, recomputes the level used and LOW_SUCTION, and posts and
requests by the change of LOW_SUCTION; it is answered OK, or CLAMPED where the level was clamped. -/
def Obligations.ReportLevelTakesTheLevel : Prop :=
  ∀ (d : District) (level : BitVec 16) (chk : Byte) (s : State),
    let f : Frame := ⟨.district d, 0x20, field16 level, chk⟩
    s.accepts f →
    let b := s.bays.get d
    let v : Int := max (-9999) (min 9999 level.toInt)
    let used : Int := if b.floatInput = true then max v b.cfg.floatLevel else v
    let low : Bool :=
      if b.floatInput = true then false
      else if used < b.cfg.floor then true
      else if used < b.cfg.floor + 100 then b.lowSuction else false
    exec (.reportLevel (.district d) level chk) s = .next
      ({ s with
          bays := s.bays.set d { b with reported := some v, age := 0, levelUsed := used, lowSuction := low }
          notices :=
            if low = true ∧ b.lowSuction = false then
              s.notices.set (.district d) ((s.notices.get (.district d)).post .lowSuction)
            else s.notices
          disp := if low = b.lowSuction then s.disp else { s.disp with request := true } }.answer f
        [if v = level.toInt then 0x00 else 0x01])

/-- POST ORDER: BAD_VALUE, QUEUE_FULL and TAG_IN_USE in that order, with nothing changed; else the order joins at the tail, with
its clamped volume and deadline, ACTIVE or SUSPENDED at the head of an empty list and QUEUED behind others. -/
def Obligations.PostOrderJoinsTheList : Prop :=
  ∀ (d : District) (tag urgency : Byte) (volume deadline : BitVec 32) (chk : Byte) (s : State),
    let f : Frame := ⟨.district d, 0x21, [tag, urgency] ++ field32 volume ++ field32 deadline, chk⟩
    s.accepts f →
    let q := s.queues.get d
    let c : Instr := .postOrder (.district d) tag urgency volume deadline chk
    let count (n : Nat) : Byte := BitVec.ofNat 8 n
    let bad := tag = 0 ∨ 2 < urgency.toNat ∨ volume.toNat < 1000
    let used := ∃ o ∈ q.orders, o.tag = tag
    (bad → exec c s = .next (s.answer f [0x20, count q.orders.length]))
    ∧ (¬bad → 8 ≤ q.orders.length → exec c s = .next (s.answer f [0x21, count q.orders.length]))
    ∧ (¬bad → q.orders.length < 8 → used → exec c s = .next (s.answer f [0x22, count q.orders.length]))
    ∧ (¬bad → q.orders.length < 8 → ¬used →
        let v := min 2000000000 volume.toNat
        let n := max 60 (min 604800 deadline.toNat)
        let o : Order :=
          { tag := tag
            urgency := if urgency.toNat = 0 then .routine else if urgency.toNat = 1 then .high else .emergency
            posted := v, remaining := v, postedAt := s.clock
            deadline := if deadline = 0 then none else some n
            state :=
              if q.orders ≠ [] then .queued else if s.river.closure = none then .active else .suspended }
        let clamped := 2000000000 < volume.toNat ∨ (deadline ≠ 0 ∧ n ≠ deadline.toNat)
        exec c s = .next
          ({ s with queues := s.queues.set d { q with orders := q.orders ++ [o] } }.answer f
            [if clamped then 0x01 else 0x00, count (q.orders.length + 1)]))

/-- CANCEL ORDER takes the order with the tag out of the list from any place, appends its CANCELLED record (the oldest of
eight leaves first, with COMPLETION_OVERFLOW), promotes the next order of a head that left, closes the gate of an emptied
list, posts ORDER_FINISHED, and returns the remaining; a tag of 0 or one that no order carries is refused. -/
def Obligations.CancelOrderFinishesTheOrder : Prop :=
  ∀ (d : District) (tag chk : Byte) (s : State),
    let f : Frame := ⟨.district d, 0x22, [tag], chk⟩
    s.accepts f →
    let q := s.queues.get d
    (tag = 0 → exec (.cancelOrder (.district d) tag chk) s = .next (s.answer f [0x20, 0, 0, 0, 0]))
    ∧ (tag ≠ 0 → (∀ o ∈ q.orders, o.tag ≠ tag) →
        exec (.cancelOrder (.district d) tag chk) s = .next (s.answer f [0x23, 0, 0, 0, 0]))
    ∧ (tag ≠ 0 → ∀ (ahead behind : List Order) (o : Order), q.orders = ahead ++ o :: behind → o.tag = tag →
        (q.orders.map Order.tag).Nodup →
        let served : OrderState := if s.river.closure = none then .active else .suspended
        let left : List Order :=
          match ahead, behind with
          | [], [] => []
          | [], x :: xs => { x with state := served } :: xs
          | _ :: _, _ => ahead ++ behind
        let record : Completion :=
          { tag := tag, outcome := .cancelled, posted := o.posted, remaining := o.remaining, overshoot := 0
            carried := false, finishedAt := s.clock }
        let full : Bool := 8 ≤ q.completions.length
        let n1 := (s.notices.get (.district d)).post .orderFinished
        let n2 := if full = true then n1.post .completionOverflow else n1
        exec (.cancelOrder (.district d) tag chk) s = .next
          ({ s with
              queues := s.queues.set d
                { q with
                  orders := left
                  gateOpen := q.gateOpen && !left.isEmpty
                  completions := (if full = true then q.completions.tail else q.completions) ++ [record]
                  readDrops := min 8 (q.readDrops + if full = true then 1 else 0) }
              notices := s.notices.set (.district d) n2 }.answer f (0x00 :: field32 (BitVec.ofNat 32 o.remaining))))

/-- SET URGENCY replaces the urgency of the order with the tag; a tag of 0, an urgency above 2 or a tag that no order carries
is refused and changes nothing. -/
def Obligations.SetUrgencyReplacesTheUrgency : Prop :=
  ∀ (d : District) (tag urgency chk : Byte) (s : State),
    let f : Frame := ⟨.district d, 0x23, [tag, urgency], chk⟩
    s.accepts f →
    let q := s.queues.get d
    let c : Instr := .setUrgency (.district d) tag urgency chk
    (tag = 0 ∨ 2 < urgency.toNat → exec c s = .next (s.answer f [0x20]))
    ∧ (tag ≠ 0 → urgency.toNat ≤ 2 → (∀ o ∈ q.orders, o.tag ≠ tag) → exec c s = .next (s.answer f [0x23]))
    ∧ (tag ≠ 0 → urgency.toNat ≤ 2 → ∀ (ahead behind : List Order) (o : Order), q.orders = ahead ++ o :: behind →
        o.tag = tag → (q.orders.map Order.tag).Nodup →
        let u : Urgency := if urgency.toNat = 0 then .routine else if urgency.toNat = 1 then .high else .emergency
        exec c s = .next
          ({ s with queues := s.queues.set d { q with orders := ahead ++ { o with urgency := u } :: behind } }.answer f
            [0x00]))

/-- OPEN QUEUE opens the gate of a list that holds an order, leaves that of an empty list CLOSED and returns the gate; CLOSE
QUEUE closes it; CLEAR UNORDERED sets the unordered volume to 0 and returns what it held. Nothing else changes. -/
def Obligations.GateAndUnorderedCommands : Prop :=
  ∀ (d : District) (chk : Byte) (s : State),
    let q := s.queues.get d
    let f (code : Byte) : Frame := ⟨.district d, code, [], chk⟩
    (s.accepts (f 0x24) →
      exec (.openQueue (.district d) chk) s = .next
        ({ s with queues := s.queues.set d { q with gateOpen := decide (q.orders ≠ []) } }.answer (f 0x24)
          [0x00, if q.orders = [] then 0 else 1]))
    ∧ (s.accepts (f 0x25) →
      exec (.closeQueue (.district d) chk) s = .next
        ({ s with queues := s.queues.set d { q with gateOpen := false } }.answer (f 0x25) [0x00]))
    ∧ (s.accepts (f 0x29) →
      exec (.clearUnordered (.district d) chk) s = .next
        ({ s with queues := s.queues.set d { q with unordered := 0 } }.answer (f 0x29)
          (0x00 :: field32 (BitVec.ofNat 32 q.unordered))))

/-- READ QUEUE is answered OK with the fields and the order entries of R106, oldest first, and changes nothing. -/
def Obligations.ReadQueueFields : Prop :=
  ∀ (d : District) (chk : Byte) (s : State), s.accepts ⟨.district d, 0x26, [], chk⟩ →
    let q := s.queues.get d
    ∃ r : List Byte, exec (.readQueue (.district d) chk) s = .next (s.answer ⟨.district d, 0x26, [], chk⟩ r)
      ∧ r.length = 14 + 19 * q.orders.length ∧ fieldAt r 0 1 = 0
      ∧ fieldAt r 1 1 = (if q.gateOpen = true then 1 else 0) ∧ fieldAt r 2 1 = q.orders.length % 256
      ∧ fieldAt r 3 1 = q.completions.length % 256 ∧ fieldAt r 4 4 = q.unordered % 4294967296
      ∧ fieldAt r 8 6 = q.pumped % 281474976710656
      ∧ ∀ (k : Nat) (o : Order), q.orders[k]? = some o →
          let a := 14 + 19 * k
          fieldAt r a 1 = o.tag.toNat
          ∧ fieldAt r (a + 1) 1 = (match o.urgency with | .routine => 0 | .high => 1 | .emergency => 2)
          ∧ fieldAt r (a + 2) 1 = (match o.state with | .queued => 0 | .active => 1 | .suspended => 2)
          ∧ fieldAt r (a + 3) 4 = o.posted % 4294967296 ∧ fieldAt r (a + 7) 4 = o.remaining % 4294967296
          ∧ fieldAt r (a + 11) 4 = o.postedAt.toNat ∧ fieldAt r (a + 15) 4 = o.deadline.getD 0 % 4294967296

/-- READ COMPLETIONS returns the oldest records, at most as many as asked for, in the layout of R104. It leaves the list as it
is; the records returned wait for the rise of SEL_n. -/
def Obligations.ReadCompletionsReturnsTheOldest : Prop :=
  ∀ (d : District) (count chk : Byte) (s : State), s.accepts ⟨.district d, 0x27, [count], chk⟩ →
    let q := s.queues.get d
    let n := min count.toNat q.completions.length
    ∃ r : List Byte, exec (.readCompletions (.district d) count chk) s = .next
        ({ s with queues := s.queues.set d { q with readDrops := 0 } }.answer ⟨.district d, 0x27, [count], chk⟩ r
          (.removeCompletions n))
      ∧ r.length = 2 + 19 * n ∧ fieldAt r 0 1 = 0 ∧ fieldAt r 1 1 = n
      ∧ ∀ (k : Nat) (c : Completion), k < n → q.completions[k]? = some c →
          let a := 2 + 19 * k
          fieldAt r a 1 = c.tag.toNat
          ∧ fieldAt r (a + 1) 1 = (match c.outcome with | .done => 0 | .cancelled => 1 | .cut => 2)
          ∧ fieldAt r (a + 2) 4 = c.posted % 4294967296 ∧ fieldAt r (a + 6) 4 = c.remaining % 4294967296
          ∧ fieldAt r (a + 10) 4 = c.overshoot % 4294967296 ∧ fieldAt r (a + 14) 1 = (if c.carried = true then 1 else 0)
          ∧ fieldAt r (a + 15) 4 = c.finishedAt.toNat

/-- The rise of SEL_n after a READ COMPLETIONS removes from the head the records that went out in full, less those that
overflows have dropped meanwhile, and changes nothing else. -/
def Obligations.EndOfReadCompletionsRemoves : Prop :=
  ∀ (d : District) (n returned : Nat) (s : State),
    let x := s.ports.get (.district d)
    let q := s.queues.get d
    s.resetN = true → x.selN = false → x.phase = .answering → x.endAction = .removeCompletions returned →
    let out := min 65535 (x.position + n) - x.frameLength
    ∀ whole, whole ≤ returned → 2 + 19 * whole ≤ max out 2 → (whole < returned → max out 2 < 2 + 19 * (whole + 1)) →
      exec (.endOfTransaction (.district d) n) s = .next
        { s with
          queues := s.queues.set d { q with completions := q.completions.drop (whole - q.readDrops) }
          ports := s.ports.set (.district d)
            { x with selN := true, phase := .idle, position := min 65535 (x.position + n), endAction := .none } }

/-- ACK FLOAT ends the latched float demand of a bay whose float is low and requests a re-evaluation; under a high float a
LATCHED bay refuses it with FLOAT_ACTIVE; elsewhere it is answered OK and changes nothing. -/
def Obligations.AckFloatEndsLatchedDemand : Prop :=
  ∀ (d : District) (chk : Byte) (s : State),
    let f : Frame := ⟨.district d, 0x28, [], chk⟩
    s.accepts f →
    let b := s.bays.get d
    let c : Instr := .ackFloat (.district d) chk
    (b.cfg.floatMode = .latched → b.floatInput = false → b.floatDemand = true →
      exec c s = .next
        ({ s with bays := s.bays.set d { b with floatDemand := false }, disp := { s.disp with request := true } }.answer f
          [0x00]))
    ∧ (b.cfg.floatMode = .latched → b.floatInput = false → b.floatDemand = false →
        exec c s = .next (s.answer f [0x00]))
    ∧ (b.cfg.floatMode = .latched → b.floatInput = true → exec c s = .next (s.answer f [0x25]))
    ∧ (b.cfg.floatMode = .selfClearing → exec c s = .next (s.answer f [0x00]))

/-! ### CLEAR TRIP and the river commands (chapters 3, 1 and 6) -/

/-- CLEAR TRIP returns a TRIPPED unit whose motor stands and whose selector stands at a bay: to RESTING at that bay with a full
rest where AVAIL is high and enable yes, else to OFFLINE. A running motor or a selector between positions refuses it; in
every other state it is answered OK and changes nothing; a unit above 7 gets BAD_VALUE. -/
def Obligations.ClearTripReturnsTheUnit : Prop :=
  ∀ (p : PortId) (unit chk : Byte) (s : State),
    let f : Frame := ⟨p, 0x0A, [unit], chk⟩
    s.accepts f →
    let h := s.heardOn p
    let c : Instr := .clearTrip p unit chk
    (7 < unit.toNat → exec c s = .next (h.answer f [0x20]))
    ∧ ∀ i : UnitId, unit.toNat = i.val →
        let u := s.units.get i
        (u.state ≠ .tripped → exec c s = .next (h.answer f [0x00]))
        ∧ (u.state = .tripped → u.atSpeed = true ∨ u.selPos = 3 → exec c s = .next (h.answer f [0x24]))
        ∧ ∀ b : District, u.state = .tripped → u.atSpeed = false → u.selPos.val = b.val →
            (u.avail = true → u.cfg.enable = true →
              exec c s = .next
                ({ h with
                    units := s.units.set i
                      { u with
                        state := .resting, tripReason := none, rest := { left := u.cfg.minRest, due := false }
                        stateTimer := { left := 0, due := false }, commandedBay := b, selCmd := some b
                        clearedBy := some p } }.answer f [0x00]))
            ∧ (u.avail = false ∨ u.cfg.enable = false →
              exec c s = .next
                ({ h with
                    units := s.units.set i
                      { u with state := .offline, tripReason := none, clearedBy := some p } }.answer f [0x00]))

/-- SET CAP sets the cap, at most 60,000, makes the status LIVE, restarts the silence, posts CAP_CHANGED to all ports and
requests a re-evaluation; REPORT STAGE takes the stage, clamped to -5,000 to 15,000, and restarts its age. Both are answered
OK, or CLAMPED where the argument was clamped, and leave closure as it is. -/
def Obligations.SetCapAndReportStage : Prop :=
  ∀ (arg : BitVec 16) (chk : Byte) (s : State),
    let capFrame : Frame := ⟨.river, 0x40, field16 arg, chk⟩
    let stageFrame : Frame := ⟨.river, 0x41, field16 arg, chk⟩
    let h := s.heardOn .river
    let v : Int := max (-5000) (min 15000 arg.toInt)
    (s.accepts capFrame →
      exec (.setCap .river arg chk) s = .next
        ({ s with
            river := { s.river with cap := min 60000 arg.toNat, capStatus := .live, silence := 0 }
            notices := s.notices.map fun (n : NoticePort) => n.post .capChanged
            disp := { s.disp with request := true } }.answer capFrame [if arg.toNat ≤ 60000 then 0x00 else 0x01]))
    ∧ (s.accepts stageFrame →
      exec (.reportStage .river arg chk) s = .next
        ({ h with river := { h.river with stage := some v, stageAge := 0 } }.answer stageFrame
          [if v = arg.toInt then 0x00 else 0x01]))

/-- CLOSE STATION puts a COMMANDED closure in force: it suspends the oldest order of every list, moves every STARTING or
RUNNING unit to STOPPING with reason CLOSURE, credits what the RUNNING ones pumped to the queues of their bays, in ascending
unit number (log entry 10), and posts CLOSURE_CHANGED and what the credits owe. Over a RESET closure it changes the origin and
posts; over a COMMANDED one it changes nothing. -/
def Obligations.CloseStationStopsEveryUnit : Prop :=
  ∀ (chk : Byte) (s : State),
    let f : Frame := ⟨.river, 0x42, [], chk⟩
    s.accepts f →
    let h := s.heardOn .river
    let c : Instr := .closeStation .river chk
    (s.river.closure = some .commanded → exec c s = .next (h.answer f [0x00]))
    ∧ (s.river.closure = some .reset →
        exec c s = .next
          ({ h with
              river := { h.river with closure := some .commanded }
              notices := h.notices.map fun (n : NoticePort) => n.post .closureChanged }.answer f [0x00]))
    ∧ (s.river.closure = none →
        let litres (d : District) : Nat :=
          (unitIds.map fun i =>
            let u := s.units.get i
            if u.state = .running ∧ u.commandedBay = d then (s.clock - u.creditMark).toNat * u.estimate else 0).sum
        ∃ t : State, exec c s = .next (t.answer f [0x00])
          ∧ t.river = { h.river with closure := some .commanded }
          ∧ (∀ i,
              let u := s.units.get i
              t.units.get i =
                if u.state = .starting ∨ u.state = .running then
                  { u with
                    state := .stopping, runReq := false, runHold := { left := 0, due := false }
                    stateTimer := { left := u.cfg.stopTimeout, due := false }, stopReason := some .closure
                    creditMark := if u.state = .running then s.clock else u.creditMark }
                else u)
          ∧ (∀ d o os, (t.queues.get d).orders = o :: os → o.state = .suspended)
          ∧ (∀ d, litres d = 0 →
              t.queues.get d =
                { s.queues.get d with
                  orders :=
                    match (s.queues.get d).orders with
                    | [] => []
                    | o :: os => { o with state := .suspended } :: os })
          ∧ (∀ d, litres d ≠ 0 →
              (t.queues.get d).pumped = min 281474976710655 ((s.queues.get d).pumped + litres d))
          ∧ (∀ d,
              let q := s.queues.get d
              let suspended : OrderQueue :=
                { q with
                  orders :=
                    match q.orders with
                    | [] => []
                    | o :: os => { o with state := .suspended } :: os }
              let e := suspended.takeCredits true s.clock (s.creditsFor d)
              let n := t.notices.get (.district d)
              t.queues.get d = e.queue
              ∧ holds n.set .orderFinished = (holds (h.notices.get (.district d)).set .orderFinished || e.finished)
              ∧ holds n.set .completionOverflow
                  = (holds (h.notices.get (.district d)).set .completionOverflow || e.overflowed))
          ∧ (∀ p, holds (t.notices.get p).set .closureChanged = true)
          ∧ (∀ p k, k ≠ .closureChanged → p = .river ∨ (k ≠ .orderFinished ∧ k ≠ .completionOverflow) →
              holds (t.notices.get p).set k = holds (h.notices.get p).set k)
          ∧ { t with river := h.river, units := h.units, queues := h.queues, notices := h.notices } = h)

/-- LIFT CLOSURE ends a closure of either origin: the oldest order of every list becomes ACTIVE, CLOSURE_CHANGED is posted to
all ports and a re-evaluation is requested. Without closure it is answered OK and changes nothing. -/
def Obligations.LiftClosureEndsClosure : Prop :=
  ∀ (chk : Byte) (s : State),
    let f : Frame := ⟨.river, 0x43, [], chk⟩
    s.accepts f →
    let h := s.heardOn .river
    (s.river.closure = none → exec (.liftClosure .river chk) s = .next (h.answer f [0x00]))
    ∧ (s.river.closure ≠ none →
        exec (.liftClosure .river chk) s = .next
          ({ h with
              river := { h.river with closure := none }
              queues := s.queues.map fun (q : OrderQueue) =>
                { q with
                  orders :=
                    match q.orders with
                    | [] => []
                    | o :: os => { o with state := .active } :: os }
              notices := h.notices.map fun (n : NoticePort) => n.post .closureChanged
              disp := { s.disp with request := true } }.answer f [0x00]))

/-! ### The service commands (chapters 2 and 11) -/

/-- WRITE CURVE: a class above 3 gets BAD_VALUE; the numbers are clamped; a clamped record out of shape gets CURVE_SHAPE; else
the record replaces its class, CONFIG_CHANGED is posted to all ports, and the answer is CLAMPED where a number was clamped. -/
def Obligations.WriteCurveReplacesTheRecord : Prop :=
  ∀ (p : PortId) (a : CurveArgs) (chk : Byte) (s : State),
    let f : Frame := ⟨p, 0x60, a.bytes, chk⟩
    s.accepts f →
    let h := s.heardOn p
    let r : CurveClass :=
      { heads := a.heads.map fun v => min 20000 v.toNat, flows := a.flows.map fun v => min 12000 v.toNat
        qMin := min 12000 a.qMin.toNat, power := max 1 (min 4000 a.power.toNat) }
    let shape := r.heads.toList.Pairwise (· < ·) ∧ r.flows.toList.Pairwise (fun x y => y ≤ x) ∧ r.qMin ≤ r.flows.a0
    let exact := r.heads = a.heads.map BitVec.toNat ∧ r.flows = a.flows.map BitVec.toNat ∧ r.qMin = a.qMin.toNat
      ∧ r.power = a.power.toNat
    (3 < a.cls.toNat → exec (.writeCurve p a chk) s = .next (h.answer f [0x20]))
    ∧ ∀ c : ClassId, a.cls.toNat = c.val →
        (¬shape → exec (.writeCurve p a chk) s = .next (h.answer f [0x26]))
        ∧ (shape → exec (.writeCurve p a chk) s = .next
            ({ h with
                curves := s.curves.set c r
                notices := h.notices.map fun (n : NoticePort) => n.post .configChanged }.answer f
              [if exact then 0x00 else 0x01]))

/-- WRITE UNIT CONFIG: BAD_VALUE by R186, else the clamped record is pending in a busy state and in force at once in OFFLINE,
IDLE and TRIPPED, where an enable of no takes an IDLE unit OFFLINE and an enable of yes brings the departure test in
OFFLINE; CONFIG_CHANGED is posted to all ports. -/
def Obligations.WriteUnitConfigHandsOver : Prop :=
  ∀ (p : PortId) (a : UnitArgs) (chk : Byte) (s : State),
    let f : Frame := ⟨p, 0x61, a.bytes, chk⟩
    s.accepts f →
    let h := s.heardOn p
    let c : Instr := .writeUnitConfig p a chk
    let bad := 7 < a.unit.toNat ∨ 1 < a.enable.toNat ∨ 3 < a.cls.toNat ∨ a.reach.toNat % 8 = 0
    (bad → exec c s = .next (h.answer f [0x20]))
    ∧ ∀ (i : UnitId) (cls : ClassId), ¬bad → a.unit.toNat = i.val → a.cls.toNat = cls.val →
        (s.units.get i).Sound true →
        let u := s.units.get i
        let zero : Timer := { left := 0, due := false }
        let r : UnitConfig :=
          { enable := a.enable.toNat = 1, cls := cls
            reach := ⟨a.reach.getLsbD 0, a.reach.getLsbD 1, a.reach.getLsbD 2⟩
            minRun := max 60 (min 3600 a.minRun.toNat), minRest := max 60 (min 3600 a.minRest.toNat)
            maxStarts := max 1 (min 6 a.maxStarts.toNat), startTimeout := max 5 (min 120 a.startTimeout.toNat)
            stopTimeout := max 5 (min 300 a.stopTimeout.toNat), travelTimeout := max 10 (min 600 a.travelTimeout.toNat) }
        let code : Byte :=
          if r.minRun = a.minRun.toNat ∧ r.minRest = a.minRest.toNat ∧ r.maxStarts = a.maxStarts.toNat
            ∧ r.startTimeout = a.startTimeout.toNat ∧ r.stopTimeout = a.stopTimeout.toNat
            ∧ r.travelTimeout = a.travelTimeout.toNat then 0x00 else 0x01
        let goes (v : UnitRec) (post : NoticePort → NoticePort) (request : Bool) : Prop :=
          exec c s = .next
            ({ h with
                units := s.units.set i v
                notices := h.notices.map fun (n : NoticePort) => (post n).post .configChanged
                disp := if request = true then { s.disp with request := true } else s.disp }.answer f [code])
        let departs := u.state = .offline ∧ r.enable = true ∧ u.avail = true ∧ u.atSpeed = false
        (u.state = .resting ∨ u.state = .switching ∨ u.state = .starting ∨ u.state = .running ∨ u.state = .stopping →
          goes { u with pendingCfg := some r } id false)
        ∧ (u.state = .tripped ∨ (u.state = .idle ∧ r.enable = true) ∨ (u.state = .offline ∧ ¬departs) →
          goes { u with cfg := r } id false)
        ∧ (u.state = .idle ∧ r.enable = false → goes { u with cfg := r, state := .offline } (·.post .unitOffline) false)
        ∧ (∀ b : District, departs → u.selPos.val = b.val →
          goes
            { u with
              cfg := r, state := .resting, rest := { left := r.minRest, due := false }, commandedBay := b
              selCmd := some b } id false)
        ∧ (departs → u.selPos = 3 →
          goes { u with cfg := r, state := .tripped, tripReason := some .selector, stateTimer := zero }
            (·.post .unitTrip) true)

/-- WRITE BAY CONFIG: BAD_VALUE by R186, else the clamped record takes effect by R17: a new floor, float level or mode
recomputes; a change to SELF_CLEARING under a low float ends float demand and withdraws FLOAT_RISE; CONFIG_CHANGED is posted
to all ports. -/
def Obligations.WriteBayConfigTakesEffect : Prop :=
  ∀ (p : PortId) (a : BayArgs) (chk : Byte) (s : State),
    let f : Frame := ⟨p, 0x62, a.bytes, chk⟩
    s.accepts f →
    let h := s.heardOn p
    let floor : Int := max (-9999) (min 9999 a.floor.toInt)
    let level : Int := max (-9999) (min 9999 a.floatLevel.toInt)
    let weight : Nat := max 1 (min 15 a.weight.toNat)
    let bad := 2 < a.bay.toNat ∨ 1 < a.floatMode.toNat ∨ level < floor + 100
    (bad → exec (.writeBayConfig p a chk) s = .next (h.answer f [0x20]))
    ∧ ∀ d : District, ¬bad → a.bay.toNat = d.val →
        let b := s.bays.get d
        let mode : FloatMode := if a.floatMode.toNat = 0 then .selfClearing else .latched
        let ends : Bool := b.cfg.floatMode = .latched ∧ mode = .selfClearing ∧ b.floatDemand = true ∧ b.floatInput = false
        let same := floor = b.cfg.floor ∧ level = b.cfg.floatLevel ∧ mode = b.cfg.floatMode
        let used : Int :=
          if same then b.levelUsed
          else
            match b.reported with
            | none => level
            | some l => if 300 ≤ b.age then level else if b.floatInput = true then max l level else l
        let low : Bool :=
          if same then b.lowSuction
          else if b.floatInput = true then false
          else if used < floor then true
          else if used < floor + 100 then b.lowSuction else false
        ∃ t : State, exec (.writeBayConfig p a chk) s = .next
              (t.answer f
                [if floor = a.floor.toInt ∧ level = a.floatLevel.toInt ∧ weight = a.weight.toNat then 0x00 else 0x01])
          ∧ t.bays = s.bays.set d
              { b with
                cfg := { floor := floor, floatLevel := level, floatMode := mode, weight := weight }
                floatDemand := b.floatDemand && !ends, levelUsed := used, lowSuction := low }
          ∧ t.disp = { s.disp with request := s.disp.request || low != b.lowSuction || ends }
          ∧ (∀ q k, holds (t.notices.get q).set k = true ↔
              k = .configChanged ∨ (k = .lowSuction ∧ q = .district d ∧ low = true ∧ b.lowSuction = false)
                ∨ (holds (h.notices.get q).set k = true
                    ∧ ¬(k = .floatRise ∧ ends = true
                        ∧ (q = .district d ∨ (q = .river ∧ ∀ e, e ≠ d → (s.bays.get e).floatDemand = false)))))
          ∧ { t with bays := h.bays, disp := h.disp, notices := h.notices } = h

/-- WRITE STATION CONFIG replaces the station items with the clamped ones and posts CONFIG_CHANGED to all ports; in FALLBACK a
lower fallback cap lowers the cap, with CAP_CHANGED. On the river port the frame makes the status LIVE before it is judged, so
that such a write lowers no cap (deduced, log entry 12). -/
def Obligations.WriteStationConfigTakesEffect : Prop :=
  ∀ (p : PortId) (a : StationArgs) (chk : Byte) (s : State),
    let f : Frame := ⟨p, 0x63, a.bytes, chk⟩
    s.accepts f →
    let h := s.heardOn p
    let r : StationConfig :=
      { sill := max (-2000) (min 15000 a.sill.toInt), fallbackCap := min 60000 a.fallbackCap.toNat
        budgets := a.budgets.map fun v => min 20000 v.toNat, spacings := a.spacings.map fun v => min 600 v.toNat }
    let exact := r.sill = a.sill.toInt ∧ r.fallbackCap = a.fallbackCap.toNat ∧ r.budgets = a.budgets.map BitVec.toNat
      ∧ r.spacings = a.spacings.map BitVec.toNat
    let lowers := h.river.capStatus = .fallback ∧ r.fallbackCap < h.river.cap
    exec (.writeStationConfig p a chk) s = .next
      ({ h with
          station := r
          river := if lowers then { h.river with cap := r.fallbackCap } else h.river
          notices := h.notices.map fun (n : NoticePort) =>
            if lowers then (n.post .capChanged).post .configChanged else n.post .configChanged }.answer f
        [if exact then 0x00 else 0x01])

/-- COMMIT CONFIG copies the working configuration, without pending ones, and begins to write it over the stored image. At its
end, at the third second mark, an equal read-back leaves the copy as the stored image, clears CONFIG_DEFAULTED and posts
COMMIT_DONE; an unequal one leaves a failing image and posts COMMIT_FAILED. That the image fails from the event in which the
commit is taken is the model's choice (log entry 7), as are the due flag of the end and that an end that is not due changes
nothing (log entry 2). -/
def Obligations.CommitStoresTheWorkingConfiguration : Prop :=
  (∀ (p : PortId) (chk : Byte) (s : State), s.accepts ⟨p, 0x64, [], chk⟩ →
    exec (.commitConfig p chk) s = .next
      ({ s.heardOn p with
          store :=
            { s.store with
              image := .failing
              commit := some
                { copy :=
                    { curves := s.curves, units := s.units.map UnitRec.cfg, bays := s.bays.map Bay.cfg
                      station := s.station }
                  marksLeft := 3, due := false } } }.answer ⟨p, 0x64, [], chk⟩ [0x00]))
  ∧ ∀ (equal : Bool) (s : State),
      (∀ c, s.resetN = true → s.store.commit = some c → c.due = true →
        exec (.commitEnd equal) s = .next
          { s with
            store :=
              if equal = true then { image := .passing c.copy, commit := none, defaulted := false }
              else { s.store with image := .failing, commit := none }
            notices := s.notices.map fun (n : NoticePort) => n.post (if equal = true then .commitDone else .commitFailed) })
      ∧ ((∀ c, s.store.commit = some c → c.due = false) ∨ s.resetN = false → exec (.commitEnd equal) s = .next s)

/-! ### Resets (chapter 11) -/

/-- STATION RESET is answered OK with no effect before the rise of SEL_n; at that rise, whatever was shifted out, every block
takes its state after reset from the lines and the kept configuration, and the Configuration Store stays as it is. The state
after reset includes values the model chose: the due flags (log entry 2), port items (log entry 8), and `since`, `readDrops` and
`endAction` (log entry 11). -/
def Obligations.StationResetAtTheRise : Prop :=
  (∀ (chk : Byte) (s : State), s.accepts ⟨.river, 0x66, [], chk⟩ →
    exec (.stationReset .river chk) s = .next
      ((s.heardOn .river).answer ⟨.river, 0x66, [], chk⟩ [0x00] .stationReset))
  ∧ ∀ (p : PortId) (n : Nat) (s : State),
      let x := s.ports.get p
      s.resetN = true → x.selN = false → x.phase = .answering → x.endAction = .stationReset →
      ∃ t : State, exec (.endOfTransaction p n) s = .next t
        ∧ State.BlocksReset { s with ports := s.ports.set p { x with selN := true } } t ∧ t.working = s.working
        ∧ t.store = s.store ∧ t.resetN = true ∧ t.svc = s.svc ∧ t.pending = s.pending ∧ t.freeDraws = s.freeDraws

/-- At power-on with RESET_n high and at the rise of RESET_n the stored image is loaded, or the factory defaults with
CONFIG_DEFAULTED set where it fails, and every block takes its state after reset. A fall of RESET_n, or power-on under a low
one, removes every RUNREQ and releases every SELCMD and attention line. The state after reset includes values the model chose:
the due flags (log entry 2), port items (log entry 8), and `since`, `readDrops` and `endAction` (log entry 11); and a row that
names the level RESET_n has already changes nothing (log entry 13). -/
def Obligations.ResetLoadsAndResetsTheBlocks : Prop :=
  ∀ s : State,
    let loaded : WorkingConfig :=
      match s.store.image with
      | .passing w => w
      | .failing => factoryConfig
    let starts (c : Instr) : Prop :=
      ∃ t : State, exec c s = .next t ∧ State.BlocksReset s t ∧ t.working = loaded
        ∧ t.store = { image := s.store.image, commit := none, defaulted := decide (s.store.image = .failing) }
        ∧ t.resetN = true ∧ t.svc = s.svc ∧ t.pending = s.pending ∧ t.freeDraws = s.freeDraws
    let held : State :=
      { s with
        resetN := false
        units := s.units.map fun (u : UnitRec) => { u with runReq := false, selCmd := none }
        notices := s.notices.map fun (n : NoticePort) => { n with attn := false } }
    (s.resetN = true → starts .powerOn) ∧ (s.resetN = false → starts .resetNRise)
    ∧ (s.resetN = true → exec .resetNFall s = .next held) ∧ (s.resetN = false → exec .powerOn s = .next held)
    ∧ (s.resetN = true → exec .resetNRise s = .next s) ∧ (s.resetN = false → exec .resetNFall s = .next s)

/-! ### Edges of SEL_n (chapter 9) -/

/-- A fall of SEL_n starts a transaction with the status segment of R165 and R171. A rise in RECEIVING is a short transaction
and sets FRAME_SHORT; a rise in ANSWERING without an end-of-transaction action and a rise in IDLE only return or leave the
port to IDLE. A rise of another phase than its row's is refused, no line moves twice, and held in reset only the line moves
(the first two are the model's choice, log entry 13). While SEL_n is low the part sends by position what R164 says: the status
segment, zeros, and from the frame length on the response; 0 in a transaction that a reset cut; nothing while SEL_n is high. -/
def Obligations.SelectEdges : Prop :=
  ∀ (p : PortId) (s : State),
    let x := s.ports.get p
    let n := s.notices.get p
    let leaves (y : PortIf) : Host.Outcome State Fault Refusal := .next { s with ports := s.ports.set p y }
    (s.resetN = true → x.selN = true →
      ∃ b0 b1 : Byte,
        (∀ k < 8, b0.getLsbD k =
          match k with
          | 7 => decide (n.set ≠ 0)
          | 6 => n.set.getLsbD 0
          | 5 => x.frameShort
          | 4 => n.attn
          | _ => false)
        ∧ (b1.getLsbD 7 = s.river.closure.isSome) ∧ (b1.getLsbD 6 = decide (s.river.closure = some .commanded))
        ∧ (b1.toNat / 16 % 4 = match s.river.capStatus with | .live => 0 | .held => 1 | .fallback => 2)
        ∧ b1.toNat / 4 % 4 = s.river.profile.val ∧ b1.getLsbD 1 = s.svc ∧ b1.getLsbD 0 = s.store.commit.isSome
        ∧ exec (.selNFall p) s =
            leaves { x with
                 selN := false, phase := .receiving, position := 0, code := none, sum := 0, status := (b0, b1)
                 endAction := .none })
    ∧ (s.resetN = true → x.selN = false → exec (.selNFall p) s = .next s)
    ∧ (s.resetN = false → exec (.selNFall p) s = leaves { x with selN := false })
    ∧ (∀ bytes, isShort bytes = true → s.resetN = true → x.selN = false → x.phase = .receiving →
        ∃ y, exec (.shortTransaction p bytes) s = leaves y ∧ y.selN = true ∧ y.phase = .idle ∧ y.frameShort = true
          ∧ y.code = (x.code <|> bytes.head?) ∧ y.status = x.status ∧ y.response = x.response)
    ∧ (∀ bytes, isShort bytes = false → exec (.shortTransaction p bytes) s = .refused .illFormed)
    ∧ (∀ k, s.resetN = true → x.selN = false → x.phase = .answering → x.endAction = .none →
        exec (.endOfTransaction p k) s =
          leaves { x with selN := true, phase := .idle, position := min 65535 (x.position + k), endAction := .none })
    ∧ (s.resetN = true → x.selN = false → x.phase = .idle → exec (.selNRiseInIdle p) s = leaves { x with selN := true })
    ∧ (∀ (c : Instr) (ph : Phase), c.riseOf = some (p, ph) → c.wf = true →
        (s.resetN = false → exec c s = leaves { x with selN := true })
        ∧ (s.resetN = true → x.selN = true → exec c s = .next s)
        ∧ (s.resetN = true → x.selN = false → x.phase ≠ ph → exec c s = .refused .otherPhase))
    ∧ (∀ k, s.resetN = false ∨ x.selN = true → s.dataOut p k = none)
    ∧ (∀ k, s.resetN = true → x.selN = false → x.phase = .idle → s.dataOut p k = some 0)
    ∧ (s.resetN = true → x.selN = false → x.phase ≠ .idle →
        s.dataOut p 1 = some x.status.1 ∧ s.dataOut p 2 = some x.status.2)
    ∧ (∀ k, s.resetN = true → x.selN = false → x.phase = .receiving → 2 < k → s.dataOut p k = some 0)
    ∧ (s.resetN = true → x.selN = false → x.phase = .answering → 2 ≤ x.frameLength →
        (∀ k, 2 < k → k ≤ x.frameLength → s.dataOut p k = some 0)
        ∧ ∀ k, s.dataOut p (x.frameLength + 1 + k) = some (x.response[k]?.getD 0))

/-! ### The second mark and its events (chapters 1, 3 to 6) -/

/-- A second mark. With nothing left due it adds 1 to the clock and counts every age, timer, the filter and the commit by one;
what reaches a limit with an effect of its own becomes due instead (the model's choice, log entry 2), and an evaluation is owed
at a multiple of 10 or on a request. What the last mark left due is taken first, by its own rows in a fixed order (log entry
3), with some outcome of a commit's read-back (log entry 9). Held in reset there is no mark. -/
def Obligations.SecondMarkCounts : Prop :=
  ∀ s : State,
    let tick (x : Timer) : Timer :=
      if x.left = 0 then x else if x.left = 1 then { x with due := true } else { x with left := x.left - 1 }
    let v := s.river
    (s.resetN = false → exec .secondMark s = .next s)
    ∧ (s.resetN = true → s.Settled →
        ∃ t : State, exec .secondMark s = .next t
          ∧ t.clock = s.clock + 1
          ∧ (∀ d,
              let b := s.bays.get d
              t.bays.get d =
                if b.reported = none then b
                else if b.age + 1 = 60 ∨ b.age + 1 = 300 then { b with ageDue := true }
                else { b with age := min 65535 (b.age + 1) })
          ∧ t.river =
              { v with
                stageAge :=
                  if v.stage = none ∨ v.stageAge + 1 = 60 ∨ v.stageAge + 1 = 300 then v.stageAge
                  else min 65535 (v.stageAge + 1)
                stageDue := decide (v.stage ≠ none ∧ (v.stageAge + 1 = 60 ∨ v.stageAge + 1 = 300))
                silence :=
                  if (v.silence + 1 = 120 ∧ v.capStatus = .live) ∨ v.silence + 1 = 720 then v.silence
                  else min 65535 (v.silence + 1)
                silenceDue := decide ((v.silence + 1 = 120 ∧ v.capStatus = .live) ∨ v.silence + 1 = 720)
                pselAge := if v.pselSeen = v.profile then 0 else if 1 ≤ v.pselAge then v.pselAge else v.pselAge + 1
                profileDue := decide (v.pselSeen ≠ v.profile ∧ 1 ≤ v.pselAge) }
          ∧ (∀ i,
              let u := s.units.get i
              t.units.get i =
                { u with runHold := tick u.runHold, rest := tick u.rest, stateTimer := tick u.stateTimer })
          ∧ t.store =
              { s.store with
                commit := s.store.commit.map fun c =>
                  if c.marksLeft ≤ 1 then { c with due := true } else { c with marksLeft := c.marksLeft - 1 } }
          ∧ t.disp = { s.disp with evalDue := decide (t.clock.toNat % 10 = 0 ∨ s.disp.request = true) }
          ∧ { t with
              clock := s.clock, bays := s.bays, river := s.river, units := s.units, store := s.store
              disp := s.disp } = s)
    ∧ (s.resetN = true →
        ∃ (equal : Bool) (m : State),
          execAll (dueRows equal)
              { s with
                freeDraws := s.freeDraws + if ∃ c, s.store.commit = some c ∧ c.due = true then 1 else 0 } = .next m
          ∧ exec .secondMark s = .next m.tick)

/-- FRESHNESS_FALL and STAGE_FRESHNESS_FALL take the ageing of a mark that is due. At age 60 or 300 LEVEL_AGED goes to the
owning district port and the level used and LOW_SUCTION are recomputed, or STAGE_AGED goes to the river port. A report
taken since the mark has restarted the age: it becomes 1 and nothing is posted. An ageing that is not due changes nothing. -/
def Obligations.FreshnessFallsAtItsMark : Prop :=
  (∀ (d : District) (s : State),
    let b := s.bays.get d
    let c : Instr := .freshnessFall d
    let age := min 65535 (b.age + 1)
    (b.ageDue = false ∨ s.resetN = false → exec c s = .next s)
    ∧ (s.resetN = true → b.ageDue = true → b.reported = none ∨ (age ≠ 60 ∧ age ≠ 300) →
        exec c s = .next
          { s with
            bays := s.bays.set d
              { b with age := if b.reported = none then b.age else age, ageDue := false } })
    ∧ ∀ l, s.resetN = true → b.ageDue = true → b.reported = some l → age = 60 ∨ age = 300 →
        let used : Int :=
          if age = 300 then b.cfg.floatLevel else if b.floatInput = true then max l b.cfg.floatLevel else l
        let low : Bool :=
          if b.floatInput = true then false
          else if used < b.cfg.floor then true
          else if used < b.cfg.floor + 100 then b.lowSuction else false
        let n := s.notices.get (.district d)
        exec c s = .next
          { s with
            bays := s.bays.set d { b with age := age, ageDue := false, levelUsed := used, lowSuction := low }
            notices := s.notices.set (.district d)
              ((if low = true ∧ b.lowSuction = false then n.post .lowSuction else n).post .levelAged)
            disp := if low = b.lowSuction then s.disp else { s.disp with request := true } })
  ∧ ∀ s : State,
      let v := s.river
      let age := min 65535 (v.stageAge + 1)
      (v.stageDue = false ∨ s.resetN = false → exec .stageFreshnessFall s = .next s)
      ∧ (s.resetN = true → v.stageDue = true →
          exec .stageFreshnessFall s = .next
            { s with
              river := { v with stageAge := if v.stage = none then v.stageAge else age, stageDue := false }
              notices :=
                if v.stage ≠ none ∧ (age = 60 ∨ age = 300) then s.notices.set .river (s.notices.river.post .stageAged)
                else s.notices })

/-- CAP_STATUS_HELD and FALLBACK_EVENT take the judging of the silence that is due at a mark. At 120 a LIVE status becomes HELD
with CAP_CHANGED. At 720 the status becomes FALLBACK and the cap at most the fallback cap, with CAP_CHANGED where either
changed, and a RESET closure ends, with CLOSURE_CHANGED and every suspended order ACTIVE. A frame heard since the mark has
restarted the silence: it becomes 1 and nothing is posted. Neither row takes the other's event. -/
def Obligations.SilenceIsJudgedAtItsMark : Prop :=
  ∀ s : State,
    let v := s.river
    let n := min 65535 (v.silence + 1)
    (v.silenceDue = false ∨ s.resetN = false ∨ n = 720 → exec .capStatusHeld s = .next s)
    ∧ (v.silenceDue = false ∨ s.resetN = false ∨ n = 120 → exec .fallbackEvent s = .next s)
    ∧ (s.resetN = true → v.silenceDue = true → n = 120 → v.capStatus = .live →
        exec .capStatusHeld s = .next
          { s with
            river := { v with silence := 120, silenceDue := false, capStatus := .held }
            notices := s.notices.map fun (n : NoticePort) => n.post .capChanged })
    ∧ (s.resetN = true → v.silenceDue = true → n ≠ 120 → n ≠ 720 → ∀ c ∈ [Instr.capStatusHeld, .fallbackEvent],
        exec c s = .next { s with river := { v with silence := n, silenceDue := false } })
    ∧ (s.resetN = true → v.silenceDue = true → n = 720 →
        let cap := min v.cap s.station.fallbackCap
        let changed := v.capStatus ≠ .fallback ∨ v.cap ≠ cap
        let ends := v.closure = some .reset
        exec .fallbackEvent s = .next
          { s with
            river :=
              { v with
                silence := 720, silenceDue := false, cap := cap, capStatus := .fallback
                closure := if ends then none else v.closure }
            queues := s.queues.map fun (q : OrderQueue) =>
              { q with
                orders :=
                  match q.orders with
                  | [] => []
                  | o :: os => (if ends then { o with state := .active } else o) :: os }
            notices := s.notices.map fun (m : NoticePort) =>
              let m1 := if changed then m.post .capChanged else m
              if ends then m1.post .closureChanged else m1 })

/-- A change of PSEL sets the code seen and the stability age 0; the filter step that is due at a mark brings a code that has
stood into force and requests a re-evaluation, or finds a code changed since and counts it anew. A change of SVC moves the
line alone. A PSEL_CHANGE to the code already seen changes nothing (the model's choice, log entry 13). -/
def Obligations.PselFilterAndSvc : Prop :=
  ∀ (code : Fin 4) (high : Bool) (s : State),
    let v := s.river
    let c : Instr := .profileComesIntoForce
    (s.resetN = true → code ≠ v.pselSeen →
      exec (.pselChange code) s = .next { s with river := { v with pselSeen := code, pselAge := 0 } })
    ∧ (s.resetN = true → code = v.pselSeen → exec (.pselChange code) s = .next s)
    ∧ (s.resetN = false → exec (.pselChange code) s = .next { s with river := { v with pselSeen := code } })
    ∧ exec (.svcChange high) s = .next { s with svc := high }
    ∧ (v.profileDue = false ∨ s.resetN = false → exec c s = .next s)
    ∧ (s.resetN = true → v.profileDue = true → v.pselSeen = v.profile →
        exec c s = .next { s with river := { v with pselAge := 0, profileDue := false } })
    ∧ (s.resetN = true → v.profileDue = true → v.pselSeen ≠ v.profile → v.pselAge = 0 →
        exec c s = .next { s with river := { v with pselAge := 1, profileDue := false } })
    ∧ (s.resetN = true → v.profileDue = true → v.pselSeen ≠ v.profile → 1 ≤ v.pselAge →
        exec c s = .next
          { s with
            river := { v with profile := v.pselSeen, pselAge := 0, profileDue := false }
            disp := { s.disp with request := true } })

/-- RUN_HOLD_EXPIRY makes a unit hold-expired and REST_EXPIRY takes a RESTING unit to IDLE, where a pending configuration comes
into force and an enable of no takes it on to OFFLINE with UNIT_OFFLINE; in another state the rest becomes 0.
START_HISTORY_AGEING takes the oldest entry out at 3,600 s. What is not due changes nothing. -/
def Obligations.HoldRestAndHistoryEnd : Prop :=
  ∀ (i : UnitId) (s : State),
    let u := s.units.get i
    let zero : Timer := { left := 0, due := false }
    let idle : UnitRec :=
      { u with
        state := .idle, runHold := zero, rest := zero, stateTimer := zero, cfg := u.pendingCfg.getD u.cfg
        pendingCfg := none }
    let leaves := ∃ c, u.pendingCfg = some c ∧ c.enable = false
    (u.runHold.due = false ∨ s.resetN = false → exec (.runHoldExpiry i) s = .next s)
    ∧ (s.resetN = true → u.runHold.due = true →
        exec (.runHoldExpiry i) s = .next { s with units := s.units.set i { u with runHold := zero } })
    ∧ (u.rest.due = false ∨ s.resetN = false → exec (.restExpiry i) s = .next s)
    ∧ (s.resetN = true → u.rest.due = true → u.state ≠ .resting →
        exec (.restExpiry i) s = .next { s with units := s.units.set i { u with rest := zero } })
    ∧ (s.resetN = true → u.rest.due = true → u.state = .resting → ¬leaves →
        exec (.restExpiry i) s = .next { s with units := s.units.set i idle })
    ∧ (s.resetN = true → u.rest.due = true → u.state = .resting → leaves →
        exec (.restExpiry i) s = .next (s.unitTo i u.outOfService (·.post .unitOffline) false))
    ∧ (∀ t ts, s.resetN = true → u.history = t :: ts → 3600 ≤ (s.clock - t).toNat →
        exec (.startHistoryAgeing i) s = .next { s with units := s.units.set i { u with history := ts } })
    ∧ (s.resetN = false ∨ (∀ t ts, u.history = t :: ts → (s.clock - t).toNat < 3600) →
        exec (.startHistoryAgeing i) s = .next s)

/-- DEADLINE_EXPIRY cuts, in one event and oldest first, every order of the list whose deadline time is now: their CUT records
join the completion list, of which the last eight stay, with ORDER_FINISHED once and COMPLETION_OVERFLOW once where a record
was dropped; the oldest order left is promoted where the oldest left, and the gate of an emptied list closes. -/
def Obligations.DeadlineExpiryCuts : Prop :=
  ∀ (d : District) (s : State),
    let q := s.queues.get d
    let expires (o : Order) : Bool := o.deadline.map (fun n => o.postedAt + BitVec.ofNat 32 n) = some s.clock
    let gone := q.orders.filter expires
    let stay := q.orders.filter fun o => !expires o
    let served : OrderState := if s.river.closure = none then .active else .suspended
    let left : List Order :=
      match q.orders, stay with
      | o :: _, x :: xs => if expires o = true then { x with state := served } :: xs else stay
      | _, _ => stay
    let records : List Completion := gone.map fun o =>
      { tag := o.tag, outcome := .cut, posted := o.posted, remaining := o.remaining, overshoot := 0, carried := false
        finishedAt := s.clock }
    let dropped := q.completions.length + gone.length - 8
    let n := (s.notices.get (.district d)).post .orderFinished
    (s.resetN = false ∨ gone = [] → exec (.deadlineExpiry d) s = .next s)
    ∧ (s.resetN = true → gone ≠ [] → q.completions.length ≤ 8 →
        exec (.deadlineExpiry d) s = .next
          { s with
            queues := s.queues.set d
              { q with
                orders := left, gateOpen := q.gateOpen && !left.isEmpty
                completions := (q.completions ++ records).drop dropped, readDrops := min 8 (q.readDrops + dropped) }
            notices := s.notices.set (.district d)
              (if dropped = 0 then n else n.post .completionOverflow) })

/-! ### Credits (chapter 8) -/

/-- A credit raises the pumped total by the whole of it and is divided without remainder between decreases of remaining volumes,
oldest order first, and the unordered volume, which takes what no order took; the orders it finishes leave from the head, each
with a DONE record that gives its overshoot and whether it carried on to a next order, and the list stays sound. -/
def Obligations.CreditIsDividedWithoutRemainder : Prop :=
  ∀ (q : OrderQueue) (closed : Bool) (now : Second) (c : Nat), q.Sound closed →
    let e := q.credit closed now c
    e.queue.Sound closed
    ∧ e.queue.pumped = min 281474976710655 (q.pumped + c)
    ∧ ∃ (k leftover : Nat) (records : List Completion),
        k ≤ q.orders.length ∧ leftover ≤ c
        ∧ (q.orders.map Order.remaining).sum = (e.queue.orders.map Order.remaining).sum + (c - leftover)
        ∧ e.queue.unordered = min 4294967295 (q.unordered + leftover)
        ∧ (leftover ≠ 0 → e.queue.orders = [])
        ∧ e.queue.orders.map (fun o => (o.tag, o.urgency, o.posted, o.postedAt, o.deadline))
            = (q.orders.drop k).map (fun o => (o.tag, o.urgency, o.posted, o.postedAt, o.deadline))
        ∧ records.map (fun r => (r.tag, r.outcome, r.posted, r.remaining, r.finishedAt))
            = (q.orders.take k).map (fun o => (o.tag, FinishKind.done, o.posted, 0, now))
        ∧ (∀ (j : Nat) (r : Completion), records[j]? = some r →
            r.overshoot = c - ((q.orders.take (j + 1)).map Order.remaining).sum
            ∧ ((q.orders.take (j + 1)).map Order.remaining).sum ≤ c ∧ r.carried = decide (j + 1 < q.orders.length))
        ∧ e.queue.completions = (q.completions ++ records).drop (q.completions.length + k - 8)
        ∧ e.finished = decide (k ≠ 0) ∧ e.overflowed = decide (8 < q.completions.length + k)

/-- Two credits that reach one queue together leave the same pumped total, unordered volume, orders and gate in either order,
and so finish the same orders. -/
def Obligations.CreditsCommute : Prop :=
  ∀ (q : OrderQueue) (closed : Bool) (now : Second) (c1 c2 : Nat), q.Sound closed →
    let a := ((q.credit closed now c1).queue.credit closed now c2).queue
    let b := ((q.credit closed now c2).queue.credit closed now c1).queue
    a.pumped = b.pumped ∧ a.unordered = b.unordered ∧ a.orders = b.orders ∧ a.gateOpen = b.gateOpen
    ∧ a.completions.length = b.completions.length ∧ a.completions.map Completion.tag = b.completions.map Completion.tag

/-! ### The evaluation (chapter 7) -/

/-- An evaluation that is due hands every unit the estimate of R31, a RUNNING unit crediting its old one first in ascending
unit number, clears the request, and keeps its time, the cap, the budget and the sums and uses as they stand at its end. It
changes no bay, no river, configuration or port record and posts nothing but what its credits finish. One that is not due
changes nothing. -/
def Obligations.EvaluationSetsEstimatesAndSums : Prop :=
  ∀ s : State,
    (s.resetN = false ∨ s.disp.evalDue = false → exec .evaluation s = .next s)
    ∧ (s.resetN = true → s.disp.evalDue = true →
        let used : Int :=
          if s.river.stage = none ∨ 300 ≤ s.river.stageAge then s.station.sill else s.river.stage.getD 0
        let head (d : District) : Nat :=
          (max 0 (min 20000 (max used s.station.sill - (s.bays.get d).levelUsed))).toNat
        let litres (d : District) : Nat :=
          (unitIds.map fun i =>
            if (s.units.get i).commandedBay = d then (s.units.get i).owes s.clock else 0).sum
        ∃ t : State, exec .evaluation s = .next t
          ∧ (∀ i,
              let u := s.units.get i
              let at_ (d : District) : Nat := (s.curves.get u.cfg.cls).flowAt (head d)
              let reached (d : District) : Nat := if u.cfg.reach.get d = true then at_ d else 0
              (t.units.get i).estimate =
                if u.state = .stopping then u.estimate
                else if u.state = .offline ∨ u.state = .tripped then
                  if u.atSpeed = true then
                    match u.selPos with
                    | 0 => at_ 0
                    | 1 => at_ 1
                    | 2 => at_ 2
                    | 3 => max (reached 0) (max (reached 1) (reached 2))
                  else 0
                else at_ u.commandedBay)
          ∧ (∀ i, (t.units.get i).creditMark =
              if (s.units.get i).state = .running then s.clock else (s.units.get i).creditMark)
          ∧ (∀ d, litres d = 0 → t.queues.get d = s.queues.get d)
          ∧ (∀ d, litres d ≠ 0 →
              (t.queues.get d).pumped = min 281474976710655 ((s.queues.get d).pumped + litres d))
          ∧ (∀ d,
              let e := (s.queues.get d).takeCredits s.river.closure.isSome s.clock (s.creditsFor d)
              let n := t.notices.get (.district d)
              t.queues.get d = e.queue
              ∧ holds n.set .orderFinished = (holds (s.notices.get (.district d)).set .orderFinished || e.finished)
              ∧ holds n.set .completionOverflow
                  = (holds (s.notices.get (.district d)).set .completionOverflow || e.overflowed))
          ∧ t.disp.request = false ∧ t.disp.evalDue = false ∧ t.disp.lastEval = some s.clock
          ∧ t.disp.capUsed = s.river.cap
          ∧ t.disp.budgetUsed = (match s.river.profile with
              | 0 => some s.station.budgets.a0
              | 1 => some s.station.budgets.a1
              | 2 => some s.station.budgets.a2
              | 3 => none)
          ∧ (let on (u : UnitRec) : Prop := u.state = .starting ∨ u.state = .running
             let loose (u : UnitRec) : Prop := (u.state = .offline ∨ u.state = .tripped) ∧ u.atSpeed = true
             let power (u : UnitRec) : Nat := (s.curves.get u.cfg.cls).power
             let sum (f : UnitRec → Nat) : Nat := (unitIds.map fun i => f (t.units.get i)).sum
             let x := t.disp.sums
             x.commanded = sum (fun u => if on u then u.estimate else 0)
             ∧ x.uncommanded = sum (fun u => if loose u then u.estimate else 0)
             ∧ x.rundown = sum (fun u => if u.state = .stopping then u.estimate else 0)
             ∧ x.free = (s.river.cap : Int) - x.commanded - x.uncommanded - x.rundown
             ∧ x.committedPower = sum (fun u => if on u ∨ u.state = .stopping ∨ loose u then power u else 0)
             ∧ x.rundownPower = sum (fun u => if u.state = .stopping then power u else 0)
             ∧ ∀ d,
                 (t.disp.table.get d).use = sum (fun u => if on u ∧ u.commandedBay = d then u.estimate else 0)
                 ∧ (t.disp.table.get d).deficit
                     = ((t.disp.table.get d).entitlement : Int) - ((t.disp.table.get d).use : Int))
          ∧ (∀ p k, k ≠ .orderFinished → k ≠ .completionOverflow →
              holds (t.notices.get p).set k = holds (s.notices.get p).set k)
          ∧ t.notices.river = s.notices.river
          ∧ { t with units := s.units, queues := s.queues, disp := s.disp, notices := s.notices } = s)

/-- The entitlement table of an evaluation: a district demands while closure is not in force, its LOW_SUCTION is clear, and its
float demand or its open gate over an ACTIVE order calls; its urgency, effective weight and entitlement follow R130 and R131.
The entitlements never exceed the cap, and what they leave of it is less than the number of demanding districts. -/
def Obligations.EntitlementsShareTheCap : Prop :=
  ∀ s : State, s.resetN = true → s.disp.evalDue = true →
    let urgency (d : District) : Option Urgency :=
      if s.river.closure ≠ none ∨ (s.bays.get d).lowSuction = true then none
      else if (s.bays.get d).floatDemand = true then some .emergency
      else
        match (s.queues.get d).gateOpen, (s.queues.get d).orders with
        | true, o :: _ => if o.state = .active then some o.urgency else none
        | _, _ => none
    let weight (d : District) : Nat :=
      match urgency d with
      | none => 0
      | some .routine => (s.bays.get d).cfg.weight
      | some .high => 2 * (s.bays.get d).cfg.weight
      | some .emergency => 4 * (s.bays.get d).cfg.weight
    let total := weight 0 + weight 1 + weight 2
    ∃ t : State, exec .evaluation s = .next t
      ∧ (∀ d,
          let w := t.disp.table.get d
          w.demanding = (urgency d).isSome ∧ w.urgency = urgency d ∧ w.weight = weight d
          ∧ w.entitlement = s.river.cap * weight d / total)
      ∧ (let e (d : District) : Nat := (t.disp.table.get d).entitlement
         e 0 + e 1 + e 2 ≤ s.river.cap
         ∧ (total ≠ 0 → s.river.cap - (e 0 + e 1 + e 2) < (districts.filter fun d => (urgency d).isSome).length))

/-- An evaluation takes the eight stages of chapter 7 in turn, each sending every stop, start and switch its rules call for
and no other, to the unit they choose and with the record R48, R52, R57 and R58 give it. At its end, either committed power
less run-down power is within the budget, or no unit is in STARTING or RUNNING; either commanded plus uncommanded discharge is
at most the cap, or no unit is; no unit left there is below its q_min or draws from a bay in LOW_SUCTION; at most one unit
entered STARTING, only from IDLE with AVAIL high, without closure, below its max starts and with the slot open; at most one
unit was switched; and no held unit was stopped for NO_DEMAND or REBALANCE. -/
def Obligations.EvaluationKeepsTheLimits : Prop :=
  ∀ s : State, s.resetN = true → s.disp.evalDue = true →
    ∃ t : State, exec .evaluation s = .next t
      ∧ s.StagesTaken t
      ∧ (let idleStation := ∀ i, (t.units.get i).state ≠ .starting ∧ (t.units.get i).state ≠ .running
         let x := t.disp.sums
         ((∀ b, t.disp.budgetUsed = some b → x.committedPower - x.rundownPower ≤ b) ∨ idleStation)
         ∧ (x.commanded + x.uncommanded ≤ s.river.cap ∨ idleStation))
      ∧ (∀ i,
          let u := t.units.get i
          u.state = .starting ∨ u.state = .running →
            (s.curves.get u.cfg.cls).qMin ≤ u.estimate ∧ (s.bays.get u.commandedBay).lowSuction = false)
      ∧ (∀ i j,
          let starts (k : UnitId) : Prop := (t.units.get k).state = .starting ∧ (s.units.get k).state ≠ .starting
          (starts i → starts j → i = j)
          ∧ (starts i →
              let u := s.units.get i
              u.state = .idle ∧ u.avail = true ∧ u.selPos.val = u.commandedBay.val
              ∧ u.history.length < u.cfg.maxStarts ∧ s.river.closure = none
              ∧ (t.units.get i).history = u.history ++ [s.clock]
              ∧ t.disp.lastStart = some s.clock
              ∧ ∀ l, s.disp.lastStart = some l →
                  (match s.river.profile with
                    | 0 => s.station.spacings.a0
                    | 1 => s.station.spacings.a1
                    | 2 => s.station.spacings.a2
                    | 3 => 0) ≤ (s.clock - l).toNat))
      ∧ (∀ i j,
          let moved (k : UnitId) : Prop := (t.units.get k).commandedBay ≠ (s.units.get k).commandedBay
          (moved i → moved j → i = j)
          ∧ (moved i →
              let u := s.units.get i
              u.avail = true ∧ u.pendingCfg = none ∧ u.cfg.reach.get (t.units.get i).commandedBay = true))
      ∧ ∀ i, (s.units.get i).state = .running → (s.units.get i).runHold.left ≠ 0 →
          (t.units.get i).state = .running
          ∨ ((t.units.get i).state = .stopping
              ∧ (t.units.get i).stopReason ≠ some .noDemand ∧ (t.units.get i).stopReason ≠ some .rebalance)

/-! ### The lines (chapters 1 and 3) -/

/-- A rise of FLOAT raises float demand, clears LOW_SUCTION, recomputes the level used and posts FLOAT_RISE to the district
and river ports; a fall recomputes, and in SELF_CLEARING mode ends float demand and withdraws FLOAT_RISE (from the river port
where no bay demands by float). The requests are those of R11, R12 and R16. A row that names the level FLOAT has already
changes nothing (the model's choice, log entry 13); held in reset only the line moves. -/
def Obligations.FloatLineMovesDemand : Prop :=
  ∀ (d : District) (s : State),
    let b := s.bays.get d
    let only (high : Bool) : State := { s with bays := s.bays.set d { b with floatInput := high } }
    let self := b.cfg.floatMode = .selfClearing
    let usedAt (high : Bool) : Int :=
      match b.reported with
      | none => b.cfg.floatLevel
      | some l => if 300 ≤ b.age then b.cfg.floatLevel else if high = true then max l b.cfg.floatLevel else l
    (s.resetN = false →
      exec (.floatLineRise d) s = .next (only true) ∧ exec (.floatLineFall d) s = .next (only false))
    ∧ (s.resetN = true → b.floatInput = true → exec (.floatLineRise d) s = .next s)
    ∧ (s.resetN = true → b.floatInput = false → exec (.floatLineFall d) s = .next s)
    ∧ (s.resetN = true → b.floatInput = false →
        ∃ t : State, exec (.floatLineRise d) s = .next t
          ∧ t.bays = s.bays.set d
              { b with floatInput := true, floatDemand := true, levelUsed := usedAt true, lowSuction := false }
          ∧ t.disp =
              { s.disp with
                request := s.disp.request || decide (self ∨ b.floatDemand = false ∨ b.lowSuction = true) }
          ∧ (∀ p k, holds (t.notices.get p).set k =
              (holds (s.notices.get p).set k || decide (k = .floatRise ∧ (p = .district d ∨ p = .river))))
          ∧ { t with bays := s.bays, disp := s.disp, notices := s.notices } = s)
    ∧ (s.resetN = true → b.floatInput = true →
        let used := usedAt false
        let low : Bool :=
          if used < b.cfg.floor then true else if used < b.cfg.floor + 100 then b.lowSuction else false
        ∃ t : State, exec (.floatLineFall d) s = .next t
          ∧ t.bays = s.bays.set d
              { b with
                floatInput := false, floatDemand := if self then false else b.floatDemand, levelUsed := used
                lowSuction := low }
          ∧ t.disp = { s.disp with request := s.disp.request || decide (self ∨ low ≠ b.lowSuction) }
          ∧ (∀ p k, holds (t.notices.get p).set k = true ↔
              (k = .lowSuction ∧ p = .district d ∧ low = true ∧ b.lowSuction = false)
              ∨ (holds (s.notices.get p).set k = true
                  ∧ ¬(k = .floatRise ∧ self
                      ∧ (p = .district d ∨ (p = .river ∧ ∀ e, e ≠ d → (s.bays.get e).floatDemand = false)))))
          ∧ { t with bays := s.bays, disp := s.disp, notices := s.notices } = s)

/-- The trips of expiries and line changes do the same in one event: the reason, RUNREQ removed, the timers 0, a pending
configuration in force, UNIT_TRIP to all ports and a re-evaluation request; a unit that was RUNNING closes its credit, which
the queue of its commanded bay takes. They are the timeouts, a motor lost in RUNNING, a motor that runs unasked, a selector
away from its bay, and a selector between positions in the departure test or away from the bay at the end of a stop. (The
trips of a written configuration, of a pending enable at the end of a stop and of a reset stand in the statements about
those.) -/
def Obligations.TripsOfExpiriesAndLinesDoTheSame : Prop :=
  ∀ (i : UnitId) (pos : Fin 4) (s : State), s.resetN = true →
    let u := s.units.get i
    let fast (high : Bool) : UnitRec := { u with atSpeed := high }
    let fails (v : UnitRec) : Prop := v.avail = true ∧ v.cfg.enable = true ∧ v.atSpeed = false ∧ v.selPos = 3
    let stray : Prop := u.avail = true ∧ u.cfg.enable = true ∧ u.selPos.val ≠ u.commandedBay.val
    ∀ (c : Instr) (v : UnitRec) (why : TripReason),
      (c, v, why) ∈
        (if u.state = .starting ∧ u.stateTimer.due = true then [(Instr.startTimeoutExpiry i, u, .startTimeout)] else [])
        ++ (if u.state = .stopping ∧ u.stateTimer.due = true ∧ u.atSpeed = true then
              [(.stopTimeoutExpiry i, u, .stopTimeout)] else [])
        ++ (if u.state = .switching ∧ u.stateTimer.due = true then [(.travelTimeoutExpiry i, u, .travelTimeout)] else [])
        ++ (if u.state = .running ∧ u.atSpeed = true then [(.atspeedFall i, fast false, .lostRun)] else [])
        ++ (if (u.state = .idle ∨ u.state = .resting ∨ u.state = .switching) ∧ u.atSpeed = false then
              [(.atspeedRise i, fast true, .uncommandedRun)] else [])
        ++ (if (u.state = .idle ∨ u.state = .resting ∨ u.state = .starting ∨ u.state = .running ∨ u.state = .stopping)
              ∧ pos ≠ u.selPos ∧ pos.val ≠ u.commandedBay.val then
              [(.selposChange i pos, { u with selPos := pos }, .selector)] else [])
        ++ (if u.state = .offline ∧ u.avail = false ∧ fails { u with avail := true } then
              [(.availRise i, { u with avail := true }, .selector)] else [])
        ++ (if u.state = .offline ∧ u.atSpeed = true ∧ fails (fast false) then [(.atspeedFall i, fast false, .selector)] else [])
        ++ (if u.state = .offline ∧ pos ≠ u.selPos ∧ fails { u with selPos := pos } then
              [(.selposChange i pos, { u with selPos := pos }, .selector)] else [])
        ++ (if u.state = .stopping ∧ u.atSpeed = true ∧ stray then [(.atspeedFall i, fast false, .selector)] else [])
        ++ (if u.state = .stopping ∧ u.stateTimer.due = true ∧ u.atSpeed = false ∧ stray then
              [(.stopTimeoutExpiry i, u, .selector)] else []) →
      ∃ t : State, exec c s = .next t
        ∧ t.units = s.units.set i
            { v.trippedBy why with creditMark := if u.state = .running then s.clock else u.creditMark }
        ∧ t.disp = { s.disp with request := true }
        ∧ t.queues =
            (if u.owes s.clock = 0 then s.queues
             else
               s.queues.set u.commandedBay
                 ((s.queues.get u.commandedBay).credit s.river.closure.isSome s.clock (u.owes s.clock)).queue)
        ∧ (let e := (s.queues.get u.commandedBay).credit s.river.closure.isSome s.clock (u.owes s.clock)
           let n := t.notices.get (.district u.commandedBay)
           let n0 := s.notices.get (.district u.commandedBay)
           u.owes s.clock ≠ 0 →
             holds n.set .orderFinished = (holds n0.set .orderFinished || e.finished)
             ∧ holds n.set .completionOverflow = (holds n0.set .completionOverflow || e.overflowed))
        ∧ (∀ p, holds (t.notices.get p).set .unitTrip = true)
        ∧ (∀ p k, k ≠ .unitTrip →
            (p = .district u.commandedBay → u.owes s.clock ≠ 0 → k ≠ .orderFinished ∧ k ≠ .completionOverflow) →
            holds (t.notices.get p).set k = holds (s.notices.get p).set k)
        ∧ { t with units := s.units, disp := s.disp, queues := s.queues, notices := s.notices } = s

/-- The end of a stop, by a fall of ATSPEED in STOPPING or by the stop timeout with ATSPEED low: RESTING in full at the
commanded bay; TRIPPED with SELECTOR where the selector stands elsewhere; OFFLINE with UNIT_OFFLINE where AVAIL is low or
enable no, and there a pending enable of yes brings the departure test in the same event. -/
def Obligations.StopEndsByTheLines : Prop :=
  ∀ (i : UnitId) (c : Instr) (s : State), s.resetN = true →
    let u := s.units.get i
    u.state = .stopping →
    (c = .atspeedFall i ∧ u.atSpeed = true)
      ∨ (c = .stopTimeoutExpiry i ∧ u.stateTimer.due = true ∧ u.atSpeed = false) →
    let v : UnitRec := { u with atSpeed := false }
    let serves := u.avail = true ∧ u.cfg.enable = true
    let departs := ∃ k, u.pendingCfg = some k ∧ k.enable = true ∧ u.avail = true
    (serves → u.selPos.val = u.commandedBay.val →
      exec c s = .next
        { s with
          units := s.units.set i
            { v with
              state := .resting, tripReason := none, rest := { left := u.cfg.minRest, due := false }
              stateTimer := { left := 0, due := false } } })
    ∧ (serves → u.selPos.val ≠ u.commandedBay.val →
        exec c s = .next (s.unitTo i (v.trippedBy .selector) (·.post .unitTrip) true))
    ∧ (¬serves → ¬departs → exec c s = .next (s.unitTo i v.outOfService (·.post .unitOffline) false))
    ∧ (¬serves → departs → ∀ b : District, u.selPos.val = b.val →
        exec c s = .next (s.unitTo i (v.outOfService.restingAt b) (·.post .unitOffline) false))
    ∧ (¬serves → departs → u.selPos = 3 →
        exec c s = .next
          (s.unitTo i (v.outOfService.trippedBy .selector) (fun n => (n.post .unitOffline).post .unitTrip) true))

/-- The departure test of a unit in OFFLINE, at a rise of AVAIL, a fall of ATSPEED or a change of SELPOS: with AVAIL high,
enable yes and ATSPEED low it enters RESTING in full at the bay of its selector, or TRIPPED with SELECTOR between positions;
with any other lines it stays and only the line moves. -/
def Obligations.DepartureTestLeavesOffline : Prop :=
  ∀ (i : UnitId) (pos : Fin 4) (s : State), s.resetN = true →
    let u := s.units.get i
    u.state = .offline →
    ∀ (c : Instr) (v : UnitRec),
      (c = .availRise i ∧ u.avail = false ∧ v = { u with avail := true })
        ∨ (c = .atspeedFall i ∧ u.atSpeed = true ∧ v = { u with atSpeed := false })
        ∨ (c = .selposChange i pos ∧ u.selPos ≠ pos ∧ v = { u with selPos := pos }) →
      let passes := v.avail = true ∧ v.cfg.enable = true ∧ v.atSpeed = false
      (passes → ∀ b : District, v.selPos.val = b.val →
        exec c s = .next { s with units := s.units.set i (v.restingAt b) })
      ∧ (passes → v.selPos = 3 → exec c s = .next (s.unitTo i (v.trippedBy .selector) (·.post .unitTrip) true))
      ∧ (¬passes → exec c s = .next { s with units := s.units.set i v })

/-- A line change that the rules of the unit's state do not name moves only the line held: a rise of AVAIL outside OFFLINE, a
fall in OFFLINE, STOPPING or TRIPPED; a rise of ATSPEED in RUNNING, STOPPING, OFFLINE or TRIPPED, a fall outside RUNNING,
STOPPING and OFFLINE; a change of SELPOS in TRIPPED, in SWITCHING short of the target, or back to the commanded bay. A row
that names the level held already changes nothing (the model's choice, log entry 13); held in reset only the line moves. A
state timer that is not due, or of another state, has no expiry. -/
def Obligations.OtherLineChangesMoveTheLine : Prop :=
  ∀ (i : UnitId) (pos : Fin 4) (s : State),
    let u := s.units.get i
    let moved (v : UnitRec) : Host.Outcome State Fault Refusal := .next { s with units := s.units.set i v }
    let up := s.resetN = true
    let here := pos.val = u.commandedBay.val
    (up → u.avail = true → exec (.availRise i) s = .next s)
    ∧ (up → u.avail = false → exec (.availFall i) s = .next s)
    ∧ (up → u.atSpeed = true → exec (.atspeedRise i) s = .next s)
    ∧ (up → u.atSpeed = false → exec (.atspeedFall i) s = .next s)
    ∧ (up → u.selPos = pos → exec (.selposChange i pos) s = .next s)
    ∧ (¬up ∨ u.state ≠ .offline → ¬up ∨ u.avail = false → exec (.availRise i) s = moved { u with avail := true })
    ∧ (¬up ∨ u.state = .offline ∨ u.state = .stopping ∨ u.state = .tripped → ¬up ∨ u.avail = true →
        exec (.availFall i) s = moved { u with avail := false })
    ∧ (¬up ∨ u.state = .running ∨ u.state = .stopping ∨ u.state = .offline ∨ u.state = .tripped →
        ¬up ∨ u.atSpeed = false → exec (.atspeedRise i) s = moved { u with atSpeed := true })
    ∧ (¬up ∨ (u.state ≠ .running ∧ u.state ≠ .stopping ∧ u.state ≠ .offline) → ¬up ∨ u.atSpeed = true →
        exec (.atspeedFall i) s = moved { u with atSpeed := false })
    ∧ (¬up ∨ u.state = .tripped ∨ (u.state = .switching ∧ ¬here) ∨ (u.state ≠ .offline ∧ u.state ≠ .switching ∧ here) →
        ¬up ∨ u.selPos ≠ pos → exec (.selposChange i pos) s = moved { u with selPos := pos })
    ∧ (¬up ∨ u.stateTimer.due = false ∨ u.state ≠ .starting → exec (.startTimeoutExpiry i) s = .next s)
    ∧ (¬up ∨ u.stateTimer.due = false ∨ u.state ≠ .stopping → exec (.stopTimeoutExpiry i) s = .next s)
    ∧ (¬up ∨ u.stateTimer.due = false ∨ u.state ≠ .switching → exec (.travelTimeoutExpiry i) s = .next s)

/-- A fall of AVAIL in IDLE, RESTING, SWITCHING, STARTING or RUNNING takes the unit OFFLINE, untripped: timers 0, RUNREQ
removed, a pending configuration in force, UNIT_OFFLINE to all ports and no request; the commanded bay, the stop reason and
the history stay, and a unit that was RUNNING closes its credit. -/
def Obligations.AvailFallTakesOutOfService : Prop :=
  ∀ (i : UnitId) (s : State), s.resetN = true →
    let u := s.units.get i
    u.avail = true → u.state ≠ .offline → u.state ≠ .stopping → u.state ≠ .tripped →
    let v : UnitRec := { u with avail := false }
    ∃ t : State, exec (.availFall i) s = .next t
      ∧ t.units = s.units.set i
          { v.outOfService with creditMark := if u.state = .running then s.clock else u.creditMark }
      ∧ t.queues =
          (if u.owes s.clock = 0 then s.queues
           else
             s.queues.set u.commandedBay
               ((s.queues.get u.commandedBay).credit s.river.closure.isSome s.clock (u.owes s.clock)).queue)
      ∧ (let e := (s.queues.get u.commandedBay).credit s.river.closure.isSome s.clock (u.owes s.clock)
         let n := t.notices.get (.district u.commandedBay)
         let n0 := s.notices.get (.district u.commandedBay)
         u.owes s.clock ≠ 0 →
           holds n.set .orderFinished = (holds n0.set .orderFinished || e.finished)
           ∧ holds n.set .completionOverflow = (holds n0.set .completionOverflow || e.overflowed))
      ∧ (∀ p, holds (t.notices.get p).set .unitOffline = true)
      ∧ (∀ p k, k ≠ .unitOffline →
          (p = .district u.commandedBay → u.owes s.clock ≠ 0 → k ≠ .orderFinished ∧ k ≠ .completionOverflow) →
          holds (t.notices.get p).set k = holds (s.notices.get p).set k)
      ∧ { t with units := s.units, queues := s.queues, notices := s.notices } = s

/-- A rise of ATSPEED in STARTING proves the start: RUNNING, the credit mark now, the run-hold loaded with min run and the state
timer 0. A change of SELPOS to the target in SWITCHING ends the switch: RESTING with the rest it had, or IDLE where none is
left, where a pending configuration comes into force and an enable of no takes the unit on to OFFLINE. -/
def Obligations.StartAndSwitchComplete : Prop :=
  ∀ (i : UnitId) (pos : Fin 4) (s : State), s.resetN = true →
    let u := s.units.get i
    let zero : Timer := { left := 0, due := false }
    let v : UnitRec := { u with selPos := pos }
    let leaves := ∃ c, u.pendingCfg = some c ∧ c.enable = false
    let arrives := u.state = .switching ∧ u.selPos ≠ pos ∧ pos.val = u.commandedBay.val
    (u.state = .starting → u.atSpeed = false →
      exec (.atspeedRise i) s = .next
        { s with
          units := s.units.set i
            { u with
              atSpeed := true, state := .running, creditMark := s.clock
              runHold := { left := u.cfg.minRun, due := false }, stateTimer := zero } })
    ∧ (arrives → u.rest.left ≠ 0 →
        exec (.selposChange i pos) s = .next
          { s with units := s.units.set i { v with state := .resting, stateTimer := zero } })
    ∧ (arrives → u.rest.left = 0 → ¬leaves →
        exec (.selposChange i pos) s = .next
          { s with
            units := s.units.set i
              { v with
                state := .idle, runHold := zero, rest := zero, stateTimer := zero
                cfg := u.pendingCfg.getD u.cfg, pendingCfg := none } })
    ∧ (arrives → u.rest.left = 0 → leaves →
        exec (.selposChange i pos) s = .next (s.unitTo i v.outOfService (·.post .unitOffline) false))

/-! ### Invariants -/

/-- Every step keeps the invariant: attention lines driven by set and mask (R178), RUNREQ, SELCMD, trip reasons, timers and
pending configurations as their states say (R38, R41, R42, R71, R83), no unit in STARTING or RUNNING under closure (R117),
order lists and totals within their rules (R87 to R90, R100, R103, R154), bays and river consistent (R8, R11, R12, R15, R113,
R121), and every configuration, estimate, history and the cap in range (R24, R39, R81, R111, R186). -/
def Obligations.EveryStepKeepsTheInvariant : Prop := ∀ s t : State, s.Inv → step s = .next t → t.Inv

/-- The part right after reset meets the invariant. -/
def Obligations.ResetMeetsTheInvariant : Prop := State.reset.Inv

end ObligationStatements
end

