-- ==== Sys2Proof/Laws/Bank.lean ====
section
/-! SUPPORT. Reading and replacing one of several like things: districts, curve classes, units, ports. -/

namespace Sys2Proof

@[simp] theorem Tri.get_set {α : Type} (t : Tri α) (i j : Fin 3) (x : α) :
    (t.set i x).get j = if j = i then x else t.get j := by
  match i, j with
  | 0, 0 | 0, 1 | 0, 2 | 1, 0 | 1, 1 | 1, 2 | 2, 0 | 2, 1 | 2, 2 => rfl

@[simp] theorem Tri.get_map {α β : Type} (f : α → β) (t : Tri α) (i : Fin 3) : (t.map f).get i = f (t.get i) := by
  match i with
  | 0 | 1 | 2 => rfl

@[simp] theorem Tri.get_ofFn {α : Type} (f : Fin 3 → α) (i : Fin 3) : (Tri.ofFn f).get i = f i := by
  match i with
  | 0 | 1 | 2 => rfl

@[simp] theorem Tri.set_get {α : Type} (t : Tri α) (i : Fin 3) : t.set i (t.get i) = t := by
  match i with
  | 0 | 1 | 2 => rfl

@[simp] theorem Tri.set_set {α : Type} (t : Tri α) (i : Fin 3) (x y : α) : (t.set i x).set i y = t.set i y := by
  match i with
  | 0 | 1 | 2 => rfl

/-- Three things are the same when each is. -/
theorem Tri.eq_of_get {α : Type} {t u : Tri α} (h : ∀ i, t.get i = u.get i) : t = u := by
  obtain ⟨a, b, c⟩ := t
  obtain ⟨a', b', c'⟩ := u
  have h0 := h 0
  have h1 := h 1
  have h2 := h 2
  simp only [Tri.get] at h0 h1 h2
  simp [h0, h1, h2]

@[simp] theorem Quad.get_set {α : Type} (t : Quad α) (i j : Fin 4) (x : α) :
    (t.set i x).get j = if j = i then x else t.get j := by
  match i, j with
  | 0, 0 | 0, 1 | 0, 2 | 0, 3 | 1, 0 | 1, 1 | 1, 2 | 1, 3 | 2, 0 | 2, 1 | 2, 2 | 2, 3 | 3, 0 | 3, 1 | 3, 2 | 3, 3 => rfl

@[simp] theorem Oct.get_set {α : Type} (t : Oct α) (i j : Fin 8) (x : α) :
    (t.set i x).get j = if j = i then x else t.get j := by
  match i with
  | 0 | 1 | 2 | 3 | 4 | 5 | 6 | 7 => match j with
    | 0 | 1 | 2 | 3 | 4 | 5 | 6 | 7 => rfl

@[simp] theorem Oct.get_map {α β : Type} (f : α → β) (t : Oct α) (i : Fin 8) : (t.map f).get i = f (t.get i) := by
  match i with
  | 0 | 1 | 2 | 3 | 4 | 5 | 6 | 7 => rfl

@[simp] theorem Oct.get_ofFn {α : Type} (f : Fin 8 → α) (i : Fin 8) : (Oct.ofFn f).get i = f i := by
  match i with
  | 0 | 1 | 2 | 3 | 4 | 5 | 6 | 7 => rfl

@[simp] theorem Oct.set_get {α : Type} (t : Oct α) (i : Fin 8) : t.set i (t.get i) = t := by
  match i with
  | 0 | 1 | 2 | 3 | 4 | 5 | 6 | 7 => rfl

@[simp] theorem Oct.set_set {α : Type} (t : Oct α) (i : Fin 8) (x y : α) : (t.set i x).set i y = t.set i y := by
  match i with
  | 0 | 1 | 2 | 3 | 4 | 5 | 6 | 7 => rfl

/-- Eight things are the same when each is. -/
theorem Oct.eq_of_get {α : Type} {t u : Oct α} (h : ∀ i, t.get i = u.get i) : t = u := by
  obtain ⟨a0, a1, a2, a3, a4, a5, a6, a7⟩ := t
  obtain ⟨b0, b1, b2, b3, b4, b5, b6, b7⟩ := u
  have h0 := h 0
  have h1 := h 1
  have h2 := h 2
  have h3 := h 3
  have h4 := h 4
  have h5 := h 5
  have h6 := h 6
  have h7 := h 7
  simp only [Oct.get] at h0 h1 h2 h3 h4 h5 h6 h7
  simp [h0, h1, h2, h3, h4, h5, h6, h7]

@[simp] theorem Ports.get_set {α : Type} (t : Ports α) (p q : PortId) (x : α) :
    (t.set p x).get q = if q = p then x else t.get q := by
  cases p <;> cases q <;> simp [Ports.set, Ports.get]

@[simp] theorem Ports.get_map {α β : Type} (f : α → β) (t : Ports α) (p : PortId) : (t.map f).get p = f (t.get p) := by
  cases p <;> simp [Ports.map, Ports.get]

@[simp] theorem Ports.set_get {α : Type} (t : Ports α) (p : PortId) : t.set p (t.get p) = t := by
  cases p <;> simp [Ports.set, Ports.get]

@[simp] theorem Ports.set_set {α : Type} (t : Ports α) (p : PortId) (x y : α) : (t.set p x).set p y = t.set p y := by
  cases p <;> simp [Ports.set]

/-- Four records are the same when each is. -/
theorem Ports.eq_of_get {α : Type} {t u : Ports α} (h : ∀ p, t.get p = u.get p) : t = u := by
  obtain ⟨a, b⟩ := t
  obtain ⟨a', b'⟩ := u
  have hr := h .river
  have hd : a = a' := Tri.eq_of_get fun d => h (.district d)
  simp only [Ports.get] at hr
  simp [hr, hd]

end Sys2Proof
end

