-- ==== Sys2Proof/Laws/Notices.lean ====
section
/-! SUPPORT. Notice sets said once: what a post, a clear and a new mask do to a set and to its attention line (R177 to R180). -/

namespace Sys2Proof.Machine

/-- Kinds have different codes. -/
theorem NoticeKind.code_inj {j k : NoticeKind} : j.code = k.code ↔ j = k := by
  constructor
  · intro h
    cases j <;> cases k <;> simp_all [NoticeKind.code]
  · rintro rfl
    rfl

theorem NoticeKind.code_lt (k : NoticeKind) : k.code < 14 := by cases k <;> decide

/-- The bit of a kind holds that kind and no other. -/
@[simp] theorem holds_bit (k j : NoticeKind) : holds k.bit j = decide (j = k) := by
  cases k <;> cases j <;> rfl

@[simp] theorem holds_or (a b : BitVec 14) (j : NoticeKind) : holds (a ||| b) j = (holds a j || holds b j) := by
  simp [holds]

@[simp] theorem holds_diff (a b : BitVec 14) (j : NoticeKind) : holds (a &&& ~~~b) j = (holds a j && !holds b j) := by
  simp [holds, NoticeKind.code_lt]

/-- After a post the set holds what it held and the kind posted (R177). -/
@[simp] theorem NoticePort.holds_post (n : NoticePort) (k j : NoticeKind) :
    holds (n.post k).set j = (holds n.set j || decide (j = k)) := by
  simp [NoticePort.post, NoticePort.drive]

/-- After a removal the set holds what it held but the kinds removed (R14, R180). -/
@[simp] theorem NoticePort.holds_remove (n : NoticePort) (bits : BitVec 14) (j : NoticeKind) :
    holds (n.remove bits).set j = (holds n.set j && !holds bits j) := by
  simp [NoticePort.remove, NoticePort.drive]

@[simp] theorem NoticePort.post_mask (n : NoticePort) (k : NoticeKind) : (n.post k).mask = n.mask := rfl

@[simp] theorem NoticePort.post_buffer (n : NoticePort) (k : NoticeKind) : (n.post k).buffer = n.buffer := rfl

@[simp] theorem NoticePort.remove_mask (n : NoticePort) (bits : BitVec 14) : (n.remove bits).mask = n.mask := rfl

@[simp] theorem NoticePort.remove_buffer (n : NoticePort) (bits : BitVec 14) : (n.remove bits).buffer = n.buffer := rfl

@[simp] theorem NoticePort.setMask_set (n : NoticePort) (m : BitVec 14) : (n.setMask m).set = n.set := rfl

@[simp] theorem NoticePort.setMask_mask (n : NoticePort) (m : BitVec 14) : (n.setMask m).mask = m := rfl

/-- The attention condition: some kind of the set is not masked (R178). -/
theorem attention_iff (set mask : BitVec 14) :
    attention set mask = true ↔ ∃ k : Fin 14, set.getLsbD k.val = true ∧ mask.getLsbD k.val = false := by
  simp only [attention, bne_iff_ne, ne_eq]
  constructor
  · intro h
    apply Classical.byContradiction
    intro hn
    refine h (BitVec.eq_of_getLsbD_eq fun i hi => ?_)
    have hi' := fun hs hm => hn ⟨⟨i, hi⟩, hs, hm⟩
    cases hs : set.getLsbD i <;> cases hm : mask.getLsbD i <;>
      simp_all [BitVec.getLsbD_and, BitVec.getLsbD_not, -BitVec.getLsbD_eq_getElem]
  · rintro ⟨k, h1, h2⟩ h
    have := congrArg (fun v => BitVec.getLsbD v k.val) h
    simp only [BitVec.getLsbD_and, BitVec.getLsbD_not, h1, h2, k.isLt] at this
    simp at this

/-- A driven line is sound while the part is up (R178). -/
theorem NoticePort.drive_sound (n : NoticePort) : n.drive.attnSound true := by
  simpa [NoticePort.attnSound, NoticePort.drive] using attention_iff n.set n.mask

theorem NoticePort.post_sound (n : NoticePort) (k : NoticeKind) : (n.post k).attnSound true := NoticePort.drive_sound _

theorem NoticePort.remove_sound (n : NoticePort) (bits : BitVec 14) : (n.remove bits).attnSound true :=
  NoticePort.drive_sound _

theorem NoticePort.setMask_sound (n : NoticePort) (m : BitVec 14) : (n.setMask m).attnSound true :=
  NoticePort.drive_sound _

/-- Posting a kind twice is posting it once. -/
@[simp] theorem NoticePort.post_post (n : NoticePort) (k : NoticeKind) : (n.post k).post k = n.post k := by
  simp [NoticePort.post, NoticePort.drive, BitVec.or_assoc]

end Sys2Proof.Machine
end

