-- ==== Sys2Proof/Laws/State.lean ====
section
/-! SUPPORT. What each replacement of one record changes, field by field, so that no proof unfolds a record update. -/

namespace Sys2Proof.Machine

variable (s : State)

@[simp] theorem State.setBay_pending (d : District) (b : Bay) : (s.setBay d b).pending = s.pending := rfl
@[simp] theorem State.setBay_resetN (d : District) (b : Bay) : (s.setBay d b).resetN = s.resetN := rfl
@[simp] theorem State.setBay_svc (d : District) (b : Bay) : (s.setBay d b).svc = s.svc := rfl
@[simp] theorem State.setBay_clock (d : District) (b : Bay) : (s.setBay d b).clock = s.clock := rfl
@[simp] theorem State.setBay_bays (d : District) (b : Bay) : (s.setBay d b).bays = s.bays.set d b := rfl
@[simp] theorem State.setBay_river (d : District) (b : Bay) : (s.setBay d b).river = s.river := rfl
@[simp] theorem State.setBay_curves (d : District) (b : Bay) : (s.setBay d b).curves = s.curves := rfl
@[simp] theorem State.setBay_station (d : District) (b : Bay) : (s.setBay d b).station = s.station := rfl
@[simp] theorem State.setBay_units (d : District) (b : Bay) : (s.setBay d b).units = s.units := rfl
@[simp] theorem State.setBay_queues (d : District) (b : Bay) : (s.setBay d b).queues = s.queues := rfl
@[simp] theorem State.setBay_disp (d : District) (b : Bay) : (s.setBay d b).disp = s.disp := rfl
@[simp] theorem State.setBay_store (d : District) (b : Bay) : (s.setBay d b).store = s.store := rfl
@[simp] theorem State.setBay_notices (d : District) (b : Bay) : (s.setBay d b).notices = s.notices := rfl
@[simp] theorem State.setBay_ports (d : District) (b : Bay) : (s.setBay d b).ports = s.ports := rfl
@[simp] theorem State.setBay_freeDraws (d : District) (b : Bay) : (s.setBay d b).freeDraws = s.freeDraws := rfl

@[simp] theorem State.setUnit_pending (i : UnitId) (u : UnitRec) : (s.setUnit i u).pending = s.pending := rfl
@[simp] theorem State.setUnit_resetN (i : UnitId) (u : UnitRec) : (s.setUnit i u).resetN = s.resetN := rfl
@[simp] theorem State.setUnit_svc (i : UnitId) (u : UnitRec) : (s.setUnit i u).svc = s.svc := rfl
@[simp] theorem State.setUnit_clock (i : UnitId) (u : UnitRec) : (s.setUnit i u).clock = s.clock := rfl
@[simp] theorem State.setUnit_bays (i : UnitId) (u : UnitRec) : (s.setUnit i u).bays = s.bays := rfl
@[simp] theorem State.setUnit_river (i : UnitId) (u : UnitRec) : (s.setUnit i u).river = s.river := rfl
@[simp] theorem State.setUnit_curves (i : UnitId) (u : UnitRec) : (s.setUnit i u).curves = s.curves := rfl
@[simp] theorem State.setUnit_station (i : UnitId) (u : UnitRec) : (s.setUnit i u).station = s.station := rfl
@[simp] theorem State.setUnit_units (i : UnitId) (u : UnitRec) : (s.setUnit i u).units = s.units.set i u := rfl
@[simp] theorem State.setUnit_queues (i : UnitId) (u : UnitRec) : (s.setUnit i u).queues = s.queues := rfl
@[simp] theorem State.setUnit_disp (i : UnitId) (u : UnitRec) : (s.setUnit i u).disp = s.disp := rfl
@[simp] theorem State.setUnit_store (i : UnitId) (u : UnitRec) : (s.setUnit i u).store = s.store := rfl
@[simp] theorem State.setUnit_notices (i : UnitId) (u : UnitRec) : (s.setUnit i u).notices = s.notices := rfl
@[simp] theorem State.setUnit_ports (i : UnitId) (u : UnitRec) : (s.setUnit i u).ports = s.ports := rfl
@[simp] theorem State.setUnit_freeDraws (i : UnitId) (u : UnitRec) : (s.setUnit i u).freeDraws = s.freeDraws := rfl

@[simp] theorem State.setQueue_pending (d : District) (q : OrderQueue) : (s.setQueue d q).pending = s.pending := rfl
@[simp] theorem State.setQueue_resetN (d : District) (q : OrderQueue) : (s.setQueue d q).resetN = s.resetN := rfl
@[simp] theorem State.setQueue_svc (d : District) (q : OrderQueue) : (s.setQueue d q).svc = s.svc := rfl
@[simp] theorem State.setQueue_clock (d : District) (q : OrderQueue) : (s.setQueue d q).clock = s.clock := rfl
@[simp] theorem State.setQueue_bays (d : District) (q : OrderQueue) : (s.setQueue d q).bays = s.bays := rfl
@[simp] theorem State.setQueue_river (d : District) (q : OrderQueue) : (s.setQueue d q).river = s.river := rfl
@[simp] theorem State.setQueue_curves (d : District) (q : OrderQueue) : (s.setQueue d q).curves = s.curves := rfl
@[simp] theorem State.setQueue_station (d : District) (q : OrderQueue) : (s.setQueue d q).station = s.station := rfl
@[simp] theorem State.setQueue_units (d : District) (q : OrderQueue) : (s.setQueue d q).units = s.units := rfl
@[simp] theorem State.setQueue_queues (d : District) (q : OrderQueue) : (s.setQueue d q).queues = s.queues.set d q := rfl
@[simp] theorem State.setQueue_disp (d : District) (q : OrderQueue) : (s.setQueue d q).disp = s.disp := rfl
@[simp] theorem State.setQueue_store (d : District) (q : OrderQueue) : (s.setQueue d q).store = s.store := rfl
@[simp] theorem State.setQueue_notices (d : District) (q : OrderQueue) : (s.setQueue d q).notices = s.notices := rfl
@[simp] theorem State.setQueue_ports (d : District) (q : OrderQueue) : (s.setQueue d q).ports = s.ports := rfl
@[simp] theorem State.setQueue_freeDraws (d : District) (q : OrderQueue) : (s.setQueue d q).freeDraws = s.freeDraws := rfl

@[simp] theorem State.setRiver_pending (r : River) : (s.setRiver r).pending = s.pending := rfl
@[simp] theorem State.setRiver_resetN (r : River) : (s.setRiver r).resetN = s.resetN := rfl
@[simp] theorem State.setRiver_svc (r : River) : (s.setRiver r).svc = s.svc := rfl
@[simp] theorem State.setRiver_clock (r : River) : (s.setRiver r).clock = s.clock := rfl
@[simp] theorem State.setRiver_bays (r : River) : (s.setRiver r).bays = s.bays := rfl
@[simp] theorem State.setRiver_river (r : River) : (s.setRiver r).river = r := rfl
@[simp] theorem State.setRiver_curves (r : River) : (s.setRiver r).curves = s.curves := rfl
@[simp] theorem State.setRiver_station (r : River) : (s.setRiver r).station = s.station := rfl
@[simp] theorem State.setRiver_units (r : River) : (s.setRiver r).units = s.units := rfl
@[simp] theorem State.setRiver_queues (r : River) : (s.setRiver r).queues = s.queues := rfl
@[simp] theorem State.setRiver_disp (r : River) : (s.setRiver r).disp = s.disp := rfl
@[simp] theorem State.setRiver_store (r : River) : (s.setRiver r).store = s.store := rfl
@[simp] theorem State.setRiver_notices (r : River) : (s.setRiver r).notices = s.notices := rfl
@[simp] theorem State.setRiver_ports (r : River) : (s.setRiver r).ports = s.ports := rfl
@[simp] theorem State.setRiver_freeDraws (r : River) : (s.setRiver r).freeDraws = s.freeDraws := rfl

@[simp] theorem State.setDisp_pending (x : Dispatcher) : (s.setDisp x).pending = s.pending := rfl
@[simp] theorem State.setDisp_resetN (x : Dispatcher) : (s.setDisp x).resetN = s.resetN := rfl
@[simp] theorem State.setDisp_svc (x : Dispatcher) : (s.setDisp x).svc = s.svc := rfl
@[simp] theorem State.setDisp_clock (x : Dispatcher) : (s.setDisp x).clock = s.clock := rfl
@[simp] theorem State.setDisp_bays (x : Dispatcher) : (s.setDisp x).bays = s.bays := rfl
@[simp] theorem State.setDisp_river (x : Dispatcher) : (s.setDisp x).river = s.river := rfl
@[simp] theorem State.setDisp_curves (x : Dispatcher) : (s.setDisp x).curves = s.curves := rfl
@[simp] theorem State.setDisp_station (x : Dispatcher) : (s.setDisp x).station = s.station := rfl
@[simp] theorem State.setDisp_units (x : Dispatcher) : (s.setDisp x).units = s.units := rfl
@[simp] theorem State.setDisp_queues (x : Dispatcher) : (s.setDisp x).queues = s.queues := rfl
@[simp] theorem State.setDisp_disp (x : Dispatcher) : (s.setDisp x).disp = x := rfl
@[simp] theorem State.setDisp_store (x : Dispatcher) : (s.setDisp x).store = s.store := rfl
@[simp] theorem State.setDisp_notices (x : Dispatcher) : (s.setDisp x).notices = s.notices := rfl
@[simp] theorem State.setDisp_ports (x : Dispatcher) : (s.setDisp x).ports = s.ports := rfl
@[simp] theorem State.setDisp_freeDraws (x : Dispatcher) : (s.setDisp x).freeDraws = s.freeDraws := rfl

@[simp] theorem State.setStore_pending (x : Store) : (s.setStore x).pending = s.pending := rfl
@[simp] theorem State.setStore_resetN (x : Store) : (s.setStore x).resetN = s.resetN := rfl
@[simp] theorem State.setStore_svc (x : Store) : (s.setStore x).svc = s.svc := rfl
@[simp] theorem State.setStore_clock (x : Store) : (s.setStore x).clock = s.clock := rfl
@[simp] theorem State.setStore_bays (x : Store) : (s.setStore x).bays = s.bays := rfl
@[simp] theorem State.setStore_river (x : Store) : (s.setStore x).river = s.river := rfl
@[simp] theorem State.setStore_curves (x : Store) : (s.setStore x).curves = s.curves := rfl
@[simp] theorem State.setStore_station (x : Store) : (s.setStore x).station = s.station := rfl
@[simp] theorem State.setStore_units (x : Store) : (s.setStore x).units = s.units := rfl
@[simp] theorem State.setStore_queues (x : Store) : (s.setStore x).queues = s.queues := rfl
@[simp] theorem State.setStore_disp (x : Store) : (s.setStore x).disp = s.disp := rfl
@[simp] theorem State.setStore_store (x : Store) : (s.setStore x).store = x := rfl
@[simp] theorem State.setStore_notices (x : Store) : (s.setStore x).notices = s.notices := rfl
@[simp] theorem State.setStore_ports (x : Store) : (s.setStore x).ports = s.ports := rfl
@[simp] theorem State.setStore_freeDraws (x : Store) : (s.setStore x).freeDraws = s.freeDraws := rfl

@[simp] theorem State.setPort_pending (p : PortId) (x : PortIf) : (s.setPort p x).pending = s.pending := rfl
@[simp] theorem State.setPort_resetN (p : PortId) (x : PortIf) : (s.setPort p x).resetN = s.resetN := rfl
@[simp] theorem State.setPort_svc (p : PortId) (x : PortIf) : (s.setPort p x).svc = s.svc := rfl
@[simp] theorem State.setPort_clock (p : PortId) (x : PortIf) : (s.setPort p x).clock = s.clock := rfl
@[simp] theorem State.setPort_bays (p : PortId) (x : PortIf) : (s.setPort p x).bays = s.bays := rfl
@[simp] theorem State.setPort_river (p : PortId) (x : PortIf) : (s.setPort p x).river = s.river := rfl
@[simp] theorem State.setPort_curves (p : PortId) (x : PortIf) : (s.setPort p x).curves = s.curves := rfl
@[simp] theorem State.setPort_station (p : PortId) (x : PortIf) : (s.setPort p x).station = s.station := rfl
@[simp] theorem State.setPort_units (p : PortId) (x : PortIf) : (s.setPort p x).units = s.units := rfl
@[simp] theorem State.setPort_queues (p : PortId) (x : PortIf) : (s.setPort p x).queues = s.queues := rfl
@[simp] theorem State.setPort_disp (p : PortId) (x : PortIf) : (s.setPort p x).disp = s.disp := rfl
@[simp] theorem State.setPort_store (p : PortId) (x : PortIf) : (s.setPort p x).store = s.store := rfl
@[simp] theorem State.setPort_notices (p : PortId) (x : PortIf) : (s.setPort p x).notices = s.notices := rfl
@[simp] theorem State.setPort_ports (p : PortId) (x : PortIf) : (s.setPort p x).ports = s.ports.set p x := rfl
@[simp] theorem State.setPort_freeDraws (p : PortId) (x : PortIf) : (s.setPort p x).freeDraws = s.freeDraws := rfl

@[simp] theorem State.setNotice_pending (p : PortId) (x : NoticePort) : (s.setNotice p x).pending = s.pending := rfl
@[simp] theorem State.setNotice_resetN (p : PortId) (x : NoticePort) : (s.setNotice p x).resetN = s.resetN := rfl
@[simp] theorem State.setNotice_svc (p : PortId) (x : NoticePort) : (s.setNotice p x).svc = s.svc := rfl
@[simp] theorem State.setNotice_clock (p : PortId) (x : NoticePort) : (s.setNotice p x).clock = s.clock := rfl
@[simp] theorem State.setNotice_bays (p : PortId) (x : NoticePort) : (s.setNotice p x).bays = s.bays := rfl
@[simp] theorem State.setNotice_river (p : PortId) (x : NoticePort) : (s.setNotice p x).river = s.river := rfl
@[simp] theorem State.setNotice_curves (p : PortId) (x : NoticePort) : (s.setNotice p x).curves = s.curves := rfl
@[simp] theorem State.setNotice_station (p : PortId) (x : NoticePort) : (s.setNotice p x).station = s.station := rfl
@[simp] theorem State.setNotice_units (p : PortId) (x : NoticePort) : (s.setNotice p x).units = s.units := rfl
@[simp] theorem State.setNotice_queues (p : PortId) (x : NoticePort) : (s.setNotice p x).queues = s.queues := rfl
@[simp] theorem State.setNotice_disp (p : PortId) (x : NoticePort) : (s.setNotice p x).disp = s.disp := rfl
@[simp] theorem State.setNotice_store (p : PortId) (x : NoticePort) : (s.setNotice p x).store = s.store := rfl
@[simp] theorem State.setNotice_notices (p : PortId) (x : NoticePort) : (s.setNotice p x).notices = s.notices.set p x := rfl
@[simp] theorem State.setNotice_ports (p : PortId) (x : NoticePort) : (s.setNotice p x).ports = s.ports := rfl
@[simp] theorem State.setNotice_freeDraws (p : PortId) (x : NoticePort) : (s.setNotice p x).freeDraws = s.freeDraws := rfl

@[simp] theorem State.setNotices_pending (x : Ports NoticePort) : (s.setNotices x).pending = s.pending := rfl
@[simp] theorem State.setNotices_resetN (x : Ports NoticePort) : (s.setNotices x).resetN = s.resetN := rfl
@[simp] theorem State.setNotices_svc (x : Ports NoticePort) : (s.setNotices x).svc = s.svc := rfl
@[simp] theorem State.setNotices_clock (x : Ports NoticePort) : (s.setNotices x).clock = s.clock := rfl
@[simp] theorem State.setNotices_bays (x : Ports NoticePort) : (s.setNotices x).bays = s.bays := rfl
@[simp] theorem State.setNotices_river (x : Ports NoticePort) : (s.setNotices x).river = s.river := rfl
@[simp] theorem State.setNotices_curves (x : Ports NoticePort) : (s.setNotices x).curves = s.curves := rfl
@[simp] theorem State.setNotices_station (x : Ports NoticePort) : (s.setNotices x).station = s.station := rfl
@[simp] theorem State.setNotices_units (x : Ports NoticePort) : (s.setNotices x).units = s.units := rfl
@[simp] theorem State.setNotices_queues (x : Ports NoticePort) : (s.setNotices x).queues = s.queues := rfl
@[simp] theorem State.setNotices_disp (x : Ports NoticePort) : (s.setNotices x).disp = s.disp := rfl
@[simp] theorem State.setNotices_store (x : Ports NoticePort) : (s.setNotices x).store = s.store := rfl
@[simp] theorem State.setNotices_notices (x : Ports NoticePort) : (s.setNotices x).notices = x := rfl
@[simp] theorem State.setNotices_ports (x : Ports NoticePort) : (s.setNotices x).ports = s.ports := rfl
@[simp] theorem State.setNotices_freeDraws (x : Ports NoticePort) : (s.setNotices x).freeDraws = s.freeDraws := rfl

@[simp] theorem State.postAll_pending (k : NoticeKind) : (s.postAll k).pending = s.pending := rfl
@[simp] theorem State.postAll_resetN (k : NoticeKind) : (s.postAll k).resetN = s.resetN := rfl
@[simp] theorem State.postAll_svc (k : NoticeKind) : (s.postAll k).svc = s.svc := rfl
@[simp] theorem State.postAll_clock (k : NoticeKind) : (s.postAll k).clock = s.clock := rfl
@[simp] theorem State.postAll_bays (k : NoticeKind) : (s.postAll k).bays = s.bays := rfl
@[simp] theorem State.postAll_river (k : NoticeKind) : (s.postAll k).river = s.river := rfl
@[simp] theorem State.postAll_curves (k : NoticeKind) : (s.postAll k).curves = s.curves := rfl
@[simp] theorem State.postAll_station (k : NoticeKind) : (s.postAll k).station = s.station := rfl
@[simp] theorem State.postAll_units (k : NoticeKind) : (s.postAll k).units = s.units := rfl
@[simp] theorem State.postAll_queues (k : NoticeKind) : (s.postAll k).queues = s.queues := rfl
@[simp] theorem State.postAll_disp (k : NoticeKind) : (s.postAll k).disp = s.disp := rfl
@[simp] theorem State.postAll_store (k : NoticeKind) : (s.postAll k).store = s.store := rfl
@[simp] theorem State.postAll_notices (k : NoticeKind) : (s.postAll k).notices = s.notices.map fun n => n.post k := rfl
@[simp] theorem State.postAll_ports (k : NoticeKind) : (s.postAll k).ports = s.ports := rfl
@[simp] theorem State.postAll_freeDraws (k : NoticeKind) : (s.postAll k).freeDraws = s.freeDraws := rfl

@[simp] theorem State.postTo_pending (p : PortId) (k : NoticeKind) : (s.postTo p k).pending = s.pending := rfl
@[simp] theorem State.postTo_resetN (p : PortId) (k : NoticeKind) : (s.postTo p k).resetN = s.resetN := rfl
@[simp] theorem State.postTo_svc (p : PortId) (k : NoticeKind) : (s.postTo p k).svc = s.svc := rfl
@[simp] theorem State.postTo_clock (p : PortId) (k : NoticeKind) : (s.postTo p k).clock = s.clock := rfl
@[simp] theorem State.postTo_bays (p : PortId) (k : NoticeKind) : (s.postTo p k).bays = s.bays := rfl
@[simp] theorem State.postTo_river (p : PortId) (k : NoticeKind) : (s.postTo p k).river = s.river := rfl
@[simp] theorem State.postTo_curves (p : PortId) (k : NoticeKind) : (s.postTo p k).curves = s.curves := rfl
@[simp] theorem State.postTo_station (p : PortId) (k : NoticeKind) : (s.postTo p k).station = s.station := rfl
@[simp] theorem State.postTo_units (p : PortId) (k : NoticeKind) : (s.postTo p k).units = s.units := rfl
@[simp] theorem State.postTo_queues (p : PortId) (k : NoticeKind) : (s.postTo p k).queues = s.queues := rfl
@[simp] theorem State.postTo_disp (p : PortId) (k : NoticeKind) : (s.postTo p k).disp = s.disp := rfl
@[simp] theorem State.postTo_store (p : PortId) (k : NoticeKind) : (s.postTo p k).store = s.store := rfl
@[simp] theorem State.postTo_notices (p : PortId) (k : NoticeKind) : (s.postTo p k).notices = s.notices.set p ((s.notices.get p).post k) := rfl
@[simp] theorem State.postTo_ports (p : PortId) (k : NoticeKind) : (s.postTo p k).ports = s.ports := rfl
@[simp] theorem State.postTo_freeDraws (p : PortId) (k : NoticeKind) : (s.postTo p k).freeDraws = s.freeDraws := rfl

@[simp] theorem State.withdraw_pending (p : PortId) (k : NoticeKind) : (s.withdraw p k).pending = s.pending := rfl
@[simp] theorem State.withdraw_resetN (p : PortId) (k : NoticeKind) : (s.withdraw p k).resetN = s.resetN := rfl
@[simp] theorem State.withdraw_svc (p : PortId) (k : NoticeKind) : (s.withdraw p k).svc = s.svc := rfl
@[simp] theorem State.withdraw_clock (p : PortId) (k : NoticeKind) : (s.withdraw p k).clock = s.clock := rfl
@[simp] theorem State.withdraw_bays (p : PortId) (k : NoticeKind) : (s.withdraw p k).bays = s.bays := rfl
@[simp] theorem State.withdraw_river (p : PortId) (k : NoticeKind) : (s.withdraw p k).river = s.river := rfl
@[simp] theorem State.withdraw_curves (p : PortId) (k : NoticeKind) : (s.withdraw p k).curves = s.curves := rfl
@[simp] theorem State.withdraw_station (p : PortId) (k : NoticeKind) : (s.withdraw p k).station = s.station := rfl
@[simp] theorem State.withdraw_units (p : PortId) (k : NoticeKind) : (s.withdraw p k).units = s.units := rfl
@[simp] theorem State.withdraw_queues (p : PortId) (k : NoticeKind) : (s.withdraw p k).queues = s.queues := rfl
@[simp] theorem State.withdraw_disp (p : PortId) (k : NoticeKind) : (s.withdraw p k).disp = s.disp := rfl
@[simp] theorem State.withdraw_store (p : PortId) (k : NoticeKind) : (s.withdraw p k).store = s.store := rfl
@[simp] theorem State.withdraw_notices (p : PortId) (k : NoticeKind) : (s.withdraw p k).notices = s.notices.set p ((s.notices.get p).remove k.bit) := rfl
@[simp] theorem State.withdraw_ports (p : PortId) (k : NoticeKind) : (s.withdraw p k).ports = s.ports := rfl
@[simp] theorem State.withdraw_freeDraws (p : PortId) (k : NoticeKind) : (s.withdraw p k).freeDraws = s.freeDraws := rfl

@[simp] theorem State.requestEvaluation_pending : (s.requestEvaluation).pending = s.pending := rfl
@[simp] theorem State.requestEvaluation_resetN : (s.requestEvaluation).resetN = s.resetN := rfl
@[simp] theorem State.requestEvaluation_svc : (s.requestEvaluation).svc = s.svc := rfl
@[simp] theorem State.requestEvaluation_clock : (s.requestEvaluation).clock = s.clock := rfl
@[simp] theorem State.requestEvaluation_bays : (s.requestEvaluation).bays = s.bays := rfl
@[simp] theorem State.requestEvaluation_river : (s.requestEvaluation).river = s.river := rfl
@[simp] theorem State.requestEvaluation_curves : (s.requestEvaluation).curves = s.curves := rfl
@[simp] theorem State.requestEvaluation_station : (s.requestEvaluation).station = s.station := rfl
@[simp] theorem State.requestEvaluation_units : (s.requestEvaluation).units = s.units := rfl
@[simp] theorem State.requestEvaluation_queues : (s.requestEvaluation).queues = s.queues := rfl
@[simp] theorem State.requestEvaluation_disp : (s.requestEvaluation).disp = { s.disp with request := true } := rfl
@[simp] theorem State.requestEvaluation_store : (s.requestEvaluation).store = s.store := rfl
@[simp] theorem State.requestEvaluation_notices : (s.requestEvaluation).notices = s.notices := rfl
@[simp] theorem State.requestEvaluation_ports : (s.requestEvaluation).ports = s.ports := rfl
@[simp] theorem State.requestEvaluation_freeDraws : (s.requestEvaluation).freeDraws = s.freeDraws := rfl

end Sys2Proof.Machine
end

