-- ==== Sys2Proof/Laws/Blocks.lean ====
section
/-! SUPPORT. The shared operations of the blocks, each said once: what carrying out an event of a bay, a queue or a unit changes
of the part, and what a trip, a stop, a departure and a rest do to a unit record. -/

namespace Sys2Proof.Machine

/-! ### Guards -/

@[simp] theorem State.onlyIf_true (s : State) (f : State → State) : s.onlyIf true f = f s := rfl

@[simp] theorem State.onlyIf_false (s : State) (f : State → State) : s.onlyIf false f = s := rfl

/-- What `onlyIf` can answer. -/
theorem State.onlyIf_cases (s : State) (c : Bool) (f : State → State) :
    (c = true ∧ s.onlyIf c f = f s) ∨ (c = false ∧ s.onlyIf c f = s) := by
  cases c <;> simp

theorem State.whileUp_up {s : State} (f : State → State) (h : s.resetN = true) : s.whileUp f = .next (f s) := by
  simp [State.whileUp, h]

theorem State.whileUp_held {s : State} (f : State → State) (h : s.resetN = false) : s.whileUp f = .next s := by
  simp [State.whileUp, h]

theorem State.lineChange_up {s : State} (level act : State → State) (h : s.resetN = true) :
    s.lineChange level act = .next (act s) := by
  simp [State.lineChange, h]

theorem State.lineChange_held {s : State} (level act : State → State) (h : s.resetN = false) :
    s.lineChange level act = .next (level s) := by
  simp [State.lineChange, h]

/-- Everything a row that names a rise of SEL_n can answer. -/
theorem State.selRise_cases (s : State) (p : PortId) (ph : Phase) (act : State → State) :
    (s.resetN = false ∧ s.selRise p ph act = .next (s.selLevel p true))
    ∨ (s.resetN = true ∧ (s.ports.get p).selN = true ∧ s.selRise p ph act = .next s)
    ∨ (s.resetN = true ∧ (s.ports.get p).selN = false ∧ (s.ports.get p).phase = ph
        ∧ s.selRise p ph act = .next (act s))
    ∨ (s.resetN = true ∧ (s.ports.get p).selN = false ∧ (s.ports.get p).phase ≠ ph
        ∧ s.selRise p ph act = .refused .otherPhase) := by
  unfold State.selRise
  cases s.resetN <;> cases (s.ports.get p).selN <;> by_cases h : (s.ports.get p).phase = ph <;> simp [h]

/-! ### An event of a bay -/

/-- Carrying out an event of a bay: its record, LOW_SUCTION to its district port, and the request. -/
theorem State.applyBay_eq (s : State) (d : District) (e : BayEffect) :
    s.applyBay d e =
      { s with
        bays := s.bays.set d e.bay
        notices :=
          if e.postSuction = true then s.notices.set (.district d) ((s.notices.get (.district d)).post .lowSuction)
          else s.notices
        disp := if e.request = true then { s.disp with request := true } else s.disp } := by
  cases h1 : e.postSuction <;> cases h2 : e.request <;>
    simp [State.applyBay, h1, h2, State.setBay, State.postTo, State.setNotice, State.requestEvaluation, State.setDisp]

/-! ### An event of a queue -/

/-- Carrying out an event of a queue: its record, ORDER_FINISHED and COMPLETION_OVERFLOW to its district port. -/
theorem State.applyQueue_eq (s : State) (d : District) (e : QueueEffect) :
    s.applyQueue d e =
      { s with
        queues := s.queues.set d e.queue
        notices :=
          if e.finished = false ∧ e.overflowed = false then s.notices
          else
            s.notices.set (.district d)
              (let n := s.notices.get (.district d)
               let n1 := if e.finished = true then n.post .orderFinished else n
               if e.overflowed = true then n1.post .completionOverflow else n1) } := by
  cases h1 : e.finished <;> cases h2 : e.overflowed <;>
    simp [State.applyQueue, h1, h2, State.setQueue, State.postTo, State.setNotice]

/-- Appending records to a completion list of at most eight: the last eight stay, and the count is what was dropped (R103). -/
theorem foldl_appendCompletion (records l : List Completion) (n : Nat) (h : l.length ≤ 8) :
    records.foldl appendCompletion (l, n) =
      ((l ++ records).drop (l.length + records.length - 8), n + (l.length + records.length - 8)) := by
  induction records generalizing l n with
  | nil => simp [show l.length - 8 = 0 by omega]
  | cons r rs ih =>
    rw [List.foldl_cons]
    by_cases h8 : 8 ≤ l.length
    · obtain ⟨x, xs, rfl⟩ : ∃ x xs, l = x :: xs := by
        cases l with
        | nil => simp at h8
        | cons x xs => exact ⟨x, xs, rfl⟩
      have hx : xs.length = 7 := by simp at h h8; omega
      rw [show appendCompletion (x :: xs, n) r = (xs ++ [r], n + 1) by simp [appendCompletion, hx]]
      rw [ih _ _ (by simp [hx])]
      simp only [List.length_append, List.length_cons, List.length_nil, hx, List.append_assoc, List.cons_append,
        List.nil_append, Prod.mk.injEq]
      refine ⟨?_, by omega⟩
      rw [show 7 + 1 + (rs.length + 1) - 8 = (7 + (0 + 1) + rs.length - 8) + 1 by omega, List.drop_succ_cons]
    · rw [show appendCompletion (l, n) r = (l ++ [r], n) by simp [appendCompletion, h8]]
      rw [ih _ _ (by simp; omega)]
      simp only [List.length_append, List.length_cons, List.length_nil, List.append_assoc, List.cons_append,
        List.nil_append, Prod.mk.injEq]
      exact ⟨by congr 1; omega, by omega⟩

/-- Everything a finish does to a queue whose completion list holds at most eight records (R94, R103). -/
theorem OrderQueue.finish_eq (q : OrderQueue) (orders : List Order) (records : List Completion)
    (h : q.completions.length ≤ 8) :
    q.finish orders records =
      { queue :=
          { q with
            orders := orders, gateOpen := q.gateOpen && !orders.isEmpty
            completions := (q.completions ++ records).drop (q.completions.length + records.length - 8)
            readDrops := min 8 (q.readDrops + (q.completions.length + records.length - 8)) }
        finished := !records.isEmpty
        overflowed := decide (8 < q.completions.length + records.length) } := by
  simp only [OrderQueue.finish, foldl_appendCompletion records q.completions 0 h, Nat.zero_add, QueueEffect.mk.injEq,
    true_and]
  by_cases h8 : 8 < q.completions.length + records.length <;> simp [h8] <;> omega

/-- What a spent credit does: the orders it finishes, oldest first, the orders left, and the leftover, without remainder. -/
theorem spend_eq (now : Second) (c : Nat) (os : List Order) :
    let r := spend now c os
    ∃ k ≤ os.length,
      r.1.length = k ∧ r.2.1.length = os.length - k
      ∧ (os.map Order.remaining).sum + r.2.2 = (r.2.1.map Order.remaining).sum + c
      ∧ (r.2.2 ≠ 0 → r.2.1 = [])
      ∧ r.1.map (fun x => (x.tag, x.outcome, x.posted, x.remaining, x.finishedAt))
          = (os.take k).map (fun o => (o.tag, FinishKind.done, o.posted, 0, now))
      ∧ r.2.1.map (fun o => (o.tag, o.urgency, o.posted, o.postedAt, o.deadline, o.state))
          = (os.drop k).map (fun o => (o.tag, o.urgency, o.posted, o.postedAt, o.deadline, o.state)) := by
  induction os generalizing c with
  | nil => exact ⟨0, by simp [spend]⟩
  | cons o os ih =>
    simp only [spend]
    by_cases h : c < o.remaining
    · refine ⟨0, by simp, ?_⟩
      simp [h]
      omega
    · obtain ⟨k, hk, h1, h2, h3, h4, h5, h6⟩ := ih (c - o.remaining)
      refine ⟨k + 1, by simpa using hk, ?_⟩
      simp only [h, if_false, List.length_cons, h1, h2, List.map_cons, List.sum_cons, List.take_succ_cons,
        List.drop_succ_cons, h5, h6, true_and]
      refine ⟨by omega, by omega, h4, ?_⟩
      simp [Order.doneWith]

@[simp] theorem OrderQueue.takeCredits_nil (q : OrderQueue) (closed : Bool) (now : Second) :
    q.takeCredits closed now [] = { queue := q } := rfl

@[simp] theorem OrderQueue.takeCredits_cons (q : OrderQueue) (closed : Bool) (now : Second) (c : Nat) (cs : List Nat) :
    q.takeCredits closed now (c :: cs) =
      let e := q.credit closed now c
      let r := e.queue.takeCredits closed now cs
      { queue := r.queue, finished := e.finished || r.finished, overflowed := e.overflowed || r.overflowed } := rfl

/-! ### An event of a unit -/

/-- A credit sent goes to one queue; without a credit nothing changes. -/
theorem State.sendCredit_eq (s : State) (c : Option (District × Nat)) :
    s.sendCredit c =
      match c with
      | none => s
      | some (d, n) => s.applyQueue d ((s.queues.get d).credit s.closed s.clock n) := by
  cases c <;> rfl

/-- An event of a unit that sends no credit: its record, UNIT_OFFLINE, UNIT_TRIP and the request of a trip (R62, R68). -/
theorem State.applyUnit_of_no_credit (s : State) (i : UnitId) (e : UnitEffect) (h : e.credit = none) :
    s.applyUnit i e =
      { s with
        units := s.units.set i e.unit
        notices :=
          if e.wentOffline = false ∧ e.tripped = false then s.notices
          else
            s.notices.map fun n =>
              let n1 := if e.wentOffline = true then n.post .unitOffline else n
              if e.tripped = true then n1.post .unitTrip else n1
        disp := if e.tripped = true then { s.disp with request := true } else s.disp } := by
  cases h1 : e.wentOffline <;> cases h2 : e.tripped <;>
    simp [State.applyUnit, State.sendCredit, h, h1, h2, State.setUnit, State.postAll, State.setNotices,
      State.requestEvaluation, State.setDisp, Ports.map, Tri.map]

/-- Whatever an event of a unit does, it replaces that record and leaves bays, river, configuration, ports and clock. -/
theorem State.applyUnit_frame (s : State) (i : UnitId) (e : UnitEffect) :
    (s.applyUnit i e).units = s.units.set i e.unit
    ∧ { s.applyUnit i e with units := s.units, queues := s.queues, notices := s.notices, disp := s.disp } = s
    ∧ (s.applyUnit i e).disp = (if e.tripped = true then { s.disp with request := true } else s.disp) := by
  cases h1 : e.wentOffline <;> cases h2 : e.tripped <;> cases h3 : e.credit <;>
    simp [State.applyUnit, State.sendCredit, State.creditQueue, State.applyQueue_eq, h1, h2, h3, State.setUnit,
      State.postAll, State.setNotices, State.requestEvaluation, State.setDisp]

/-- The credit closed at an event: the mark of a RUNNING unit becomes now, and what it owes is sent if it is above 0 (R149). -/
theorem UnitRec.closeCredit_eq (u : UnitRec) (now : Second) :
    u.closeCredit now =
      ({ u with creditMark := if u.state = .running then now else u.creditMark },
        if u.owes now = 0 then none else some (u.commandedBay, u.owes now)) := by
  unfold UnitRec.closeCredit UnitRec.owes UnitRec.creditLitres elapsed
  by_cases h : u.state = .running <;> simp [h]

/-- Everything a trip does to a unit (R62). -/
theorem UnitRec.trip_eq (u : UnitRec) (now : Second) (why : TripReason) :
    u.trip now why =
      { unit := { u.trippedBy why with creditMark := if u.state = .running then now else u.creditMark }
        credit := if u.owes now = 0 then none else some (u.commandedBay, u.owes now)
        tripped := true } := by
  cases h : u.pendingCfg <;>
    simp [UnitRec.trip, UnitRec.closeCredit_eq, UnitRec.clearTimers, UnitRec.adoptPending, UnitRec.trippedBy, Timer.zero, h]

/-- Everything a departure from service does to a unit whose pending configuration, if any, does not enable it (R44, R84). -/
theorem UnitRec.goOffline_eq (u : UnitRec) (now : Second) (h : ∀ c, u.pendingCfg = some c → c.enable = false) :
    u.goOffline now =
      { unit := { u.outOfService with creditMark := if u.state = .running then now else u.creditMark }
        credit := if u.owes now = 0 then none else some (u.commandedBay, u.owes now)
        wentOffline := true } := by
  cases hp : u.pendingCfg <;>
    simp_all [UnitRec.goOffline, UnitRec.closeCredit_eq, UnitRec.clearTimers, UnitRec.adoptPending, UnitRec.outOfService,
      Timer.zero]

/-- Entering a rest at a bay, in the words of the claims (R43, R65). -/
theorem UnitRec.beginRestAt_eq (u : UnitRec) (b : District) : u.beginRestAt b = u.restingAt b := rfl

/-- Everything a stop does to a unit (R52). -/
theorem UnitRec.stop_eq (u : UnitRec) (now : Second) (why : StopReason) :
    u.stop now why =
      if u.onDuty then
        { unit := u.stoppedBy now why, credit := if u.owes now = 0 then none else some (u.commandedBay, u.owes now) }
      else { unit := u } := by
  simp [UnitRec.stop, UnitRec.commanded, UnitRec.closeCredit_eq, UnitRec.stoppedBy, Timer.zero, loadTimer]

/-! ### Choosing and sorting -/

/-- What `bestOf` answers is in the list, and it answers for every list that is not empty. -/
theorem mem_of_bestOf {α : Type} {better : α → α → Bool} {xs : List α} {x : α} (h : bestOf better xs = some x) :
    x ∈ xs := by
  induction xs generalizing x with
  | nil => simp [bestOf] at h
  | cons y ys ih =>
    simp only [bestOf] at h
    cases hb : bestOf better ys with
    | none => simp [hb] at h; simp [h]
    | some z =>
      simp only [hb] at h
      split at h
      · cases h; exact List.mem_cons_of_mem _ (ih hb)
      · cases h; exact List.mem_cons_self

theorem bestOf_eq_none {α : Type} {better : α → α → Bool} {xs : List α} : bestOf better xs = none ↔ xs = [] := by
  cases xs with
  | nil => simp [bestOf]
  | cons y ys =>
    simp only [bestOf]
    cases bestOf better ys with
    | none => simp
    | some z => by_cases h : better z y = true <;> simp [h]

/-- Sorting keeps the elements. -/
theorem mem_insertBy {α : Type} {before : α → α → Bool} {x y : α} {l : List α} :
    y ∈ insertBy before x l ↔ y = x ∨ y ∈ l := by
  induction l with
  | nil => simp [insertBy]
  | cons z zs ih =>
    simp only [insertBy]
    split
    · simp only [List.mem_cons, ih, or_left_comm]
    · simp

theorem mem_sortBy {α : Type} {before : α → α → Bool} {y : α} {l : List α} : y ∈ sortBy before l ↔ y ∈ l := by
  induction l with
  | nil => simp [sortBy]
  | cons z zs ih => simp [sortBy, mem_insertBy, ih]

end Sys2Proof.Machine
end

