-- ==== Sys2Proof/Laws/Evaluation.lean ====
section
/-! SUPPORT. The evaluation in the words of the claims: what the Dispatcher's choices answer, and what each of its commands does to
a unit record. -/

namespace Sys2Proof.Machine

/-! ### Choosing -/

/-- The best of a rising list under a strict weak order: no other is better, and one that is no worse comes later. -/
theorem bestOf_spec {n : Nat} {better : Fin n → Fin n → Bool} (asymm : ∀ a b, better a b = true → better b a = false)
    (weak : ∀ a b c, better a c = true → better a b = true ∨ better b c = true) {xs : List (Fin n)} {x : Fin n}
    (sorted : xs.Pairwise (· < ·)) (h : bestOf better xs = some x) :
    x ∈ xs ∧ ∀ y ∈ xs, better y x = false ∧ (better x y = true ∨ x ≤ y) := by
  induction xs generalizing x with
  | nil => simp [bestOf] at h
  | cons z zs ih =>
    obtain ⟨hz, hzs⟩ := List.pairwise_cons.1 sorted
    have self : better z z = false := by
      cases hb : better z z with
      | false => rfl
      | true => exact (asymm z z hb).symm.trans hb |>.symm
    simp only [bestOf] at h
    cases hb : bestOf better zs with
    | none =>
      rw [hb] at h
      cases h
      rw [bestOf_eq_none] at hb
      subst hb
      simp [self]
    | some y =>
      rw [hb] at h
      obtain ⟨hy, all⟩ := ih hzs hb
      by_cases hyz : better y z = true
      · simp only [hyz, if_true] at h
        cases h
        refine ⟨List.mem_cons_of_mem _ hy, fun w hw => ?_⟩
        rcases List.mem_cons.1 hw with rfl | hw
        · exact ⟨asymm _ _ hyz, .inl hyz⟩
        · exact all w hw
      · simp only [hyz] at h
        cases h
        refine ⟨List.mem_cons_self, fun w hw => ?_⟩
        rcases List.mem_cons.1 hw with rfl | hw
        · exact ⟨self, .inr (Nat.le_refl _)⟩
        · refine ⟨?_, .inr (Nat.le_of_lt (hz w hw))⟩
          cases hwz : better w z with
          | false => rfl
          | true =>
            rcases weak w y z hwz with hc | hc
            · simp [(all w hw).1] at hc
            · exact absurd hc hyz

theorem unitIds_sorted : unitIds.Pairwise (· < ·) := by decide
theorem districts_sorted : districts.Pairwise (· < ·) := by decide
theorem mem_unitIds (i : UnitId) : i ∈ unitIds := by revert i; decide
theorem mem_districts (d : District) : d ∈ districts := by revert d; decide

/-- The largest of the members of a rising list of everything that a test picks. -/
theorem largest_isLargest {n : Nat} {xs : List (Fin n)} {p : Fin n → Bool} {key : Fin n → Int} {x : Fin n}
    (sorted : xs.Pairwise (· < ·)) (every : ∀ y, y ∈ xs) (h : largest key (xs.filter p) = some x) :
    IsLargest (fun y => p y = true) key x := by
  obtain ⟨hx, all⟩ := bestOf_spec (by simp; omega) (by simp; omega) (sorted.filter _) h
  refine ⟨(List.mem_filter.1 hx).2, fun y hy => ?_⟩
  obtain ⟨h1, h2⟩ := all y (List.mem_filter.2 ⟨every y, hy⟩)
  simp only [decide_eq_false_iff_not, decide_eq_true_eq] at h1 h2
  rcases h2 with h2 | h2
  · exact .inl h2
  · by_cases hk : key y < key x
    · exact .inl hk
    · exact .inr ⟨by omega, h2⟩

theorem largest_eq_none {n : Nat} {xs : List (Fin n)} {p : Fin n → Bool} {key : Fin n → Int} (every : ∀ y, y ∈ xs) :
    largest key (xs.filter p) = none ↔ ∀ y, p y = false := by
  rw [largest, bestOf_eq_none, List.filter_eq_nil_iff]
  simp [every]

/-! ### The commands of the Dispatcher at a unit -/

@[simp] theorem UnitRec.stoppedBy_state (u : UnitRec) (now : Second) (why : StopReason) :
    (u.stoppedBy now why).state = .stopping := rfl
@[simp] theorem UnitRec.stoppedBy_estimate (u : UnitRec) (now : Second) (why : StopReason) :
    (u.stoppedBy now why).estimate = u.estimate := rfl
@[simp] theorem UnitRec.stoppedBy_commandedBay (u : UnitRec) (now : Second) (why : StopReason) :
    (u.stoppedBy now why).commandedBay = u.commandedBay := rfl
@[simp] theorem UnitRec.stoppedBy_cfg (u : UnitRec) (now : Second) (why : StopReason) :
    (u.stoppedBy now why).cfg = u.cfg := rfl
@[simp] theorem UnitRec.stoppedBy_stopReason (u : UnitRec) (now : Second) (why : StopReason) :
    (u.stoppedBy now why).stopReason = some why := rfl
@[simp] theorem UnitRec.startedAt_state (u : UnitRec) (now : Second) : (u.startedAt now).state = .starting := rfl
@[simp] theorem UnitRec.startedAt_estimate (u : UnitRec) (now : Second) : (u.startedAt now).estimate = u.estimate := rfl
@[simp] theorem UnitRec.startedAt_commandedBay (u : UnitRec) (now : Second) : (u.startedAt now).commandedBay = u.commandedBay := rfl
@[simp] theorem UnitRec.startedAt_cfg (u : UnitRec) (now : Second) : (u.startedAt now).cfg = u.cfg := rfl
@[simp] theorem UnitRec.startedAt_history (u : UnitRec) (now : Second) : (u.startedAt now).history = u.history ++ [now] := rfl

/-- Everything a start that is taken does to a unit (R48). -/
theorem UnitRec.start_eq {u : UnitRec} {closed : Bool} (now : Second) (h : u.canStart closed = true) :
    u.start now closed = u.startedAt now := by
  simp [UnitRec.start, h, UnitRec.startedAt, loadTimer]

/-- SELPOS stands at a bay exactly where it has its number. -/
theorem UnitRec.selectorAt_iff (u : UnitRec) (b : District) : u.selectorAt b = true ↔ u.selPos.val = b.val := by
  simp only [UnitRec.selectorAt, decide_eq_true_eq]
  generalize u.selPos = p
  revert p b
  decide

/-- Everything a switch that is taken does to a unit without a pending configuration (R57, R58). -/
theorem UnitRec.switch_eq {u : UnitRec} (now : Second) {b : District} (h : u.state = .idle ∨ u.state = .resting)
    (reach : u.cfg.reach.get b = true) (pending : u.pendingCfg = none) :
    u.switch now b = { unit := u.switchedTo b } := by
  have hs := u.selectorAt_iff b
  have taken : ((decide (u.state = .idle) || decide (u.state = .resting)) && u.cfg.reach.get b) = true := by
    rcases h with h | h <;> simp [h, reach]
  simp only [UnitRec.switch, taken, if_true]
  have same : UnitRec.selectorAt
      { u with
        state := .switching, commandedBay := b, selCmd := some b, stateTimer := loadTimer u.cfg.travelTimeout } b
      = u.selectorAt b := rfl
  rw [same]
  by_cases hp : u.selPos.val = b.val
  · by_cases hr : u.rest.left = 0 <;>
      simp [hs.2 hp, UnitRec.switchedTo, hp, hr, UnitRec.endSwitch, UnitRec.beginIdle, UnitRec.clearTimers, pending,
        Timer.zero]
  · have : u.selectorAt b = false := by
      cases hb : u.selectorAt b with
      | false => rfl
      | true => exact absurd (hs.1 hb) hp
    simp [this, UnitRec.switchedTo, hp, loadTimer]

/-- Everything a new estimate does to a unit (R33). -/
theorem UnitRec.takeEstimate_eq (u : UnitRec) (now : Second) (q : Nat) :
    u.takeEstimate now q =
      { unit := { u with estimate := q, creditMark := if u.state = .running then now else u.creditMark }
        credit := if u.owes now = 0 then none else some (u.commandedBay, u.owes now) } := by
  simp [UnitRec.takeEstimate, UnitRec.closeCredit_eq]

/-! ### The sums -/

/-- The flow of a unit's class at a bay, in the words of the claims (R34). -/
theorem State.estimateAt_eq (s : State) (u : UnitRec) (d : District) : s.estimateAt u.cfg.cls d = s.flowOf u d := by
  have : s.head d = s.headOf d := by
    cases h : s.river.stage with
    | none => simp [State.head, State.headOf, State.outlet, River.stageUsed, h, clampInt]
    | some v =>
      by_cases h3 : 300 ≤ s.river.stageAge
      · have : ¬s.river.stageAge < 60 := by omega
        simp [State.head, State.headOf, State.outlet, River.stageUsed, River.stageFreshness, freshnessOf, h, h3, this,
          clampInt, Nat.not_lt.2 h3]
      · by_cases h6 : s.river.stageAge < 60 <;>
          simp [State.head, State.headOf, State.outlet, River.stageUsed, River.stageFreshness, freshnessOf, h, h3, h6,
            clampInt, Nat.lt_of_not_le h3]
  simp [State.estimateAt, State.flowOf, this]

/-- The estimate of stage 1, in the words of the claims (R31). -/
theorem State.newEstimate_eq (s : State) (u : UnitRec) : s.newEstimate u = s.estimateOf u := by
  have position : s.uncommandedEstimate u =
      match u.selPos with
      | 0 => s.flowOf u 0
      | 1 => s.flowOf u 1
      | 2 => s.flowOf u 2
      | 3 =>
        max (if u.cfg.reach.get 0 = true then s.flowOf u 0 else 0)
          (max (if u.cfg.reach.get 1 = true then s.flowOf u 1 else 0)
            (if u.cfg.reach.get 2 = true then s.flowOf u 2 else 0)) := by
    unfold State.uncommandedEstimate
    match h : u.selPos with
    | 0 => simp [selBay, State.estimateAt_eq]
    | 1 => simp [selBay, State.estimateAt_eq]
    | 2 => simp [selBay, State.estimateAt_eq]
    | 3 =>
      simp only [selBay, State.reachEstimate, districts, State.estimateAt_eq]
      simp only [List.foldr]
      split <;> split <;> split <;> simp
  cases h : u.state <;> simp only [State.newEstimate, State.estimateOf, h, State.estimateAt_eq, position] <;> simp
  all_goals
    generalize u.selPos = p
    match p with
    | 0 | 1 | 2 | 3 => rfl

/-- Use, in the words of the claims (R132). -/
theorem State.use_eq (s : State) (d : District) : s.use d = useOf s.units d := by
  simp only [State.use, useOf, sumUnits, totalOf]
  congr 1
  exact List.map_congr_left fun i _ => by simp [UnitRec.commanded]

theorem totalOf_add (us : Oct UnitRec) (f g : UnitRec → Nat) :
    totalOf us f + totalOf us g = totalOf us fun u => f u + g u := by
  simp [totalOf, unitIds]
  omega

/-- The discharge that the cap half of the shed judges (R128, R135). -/
theorem State.discharge_eq (s : State) : s.commandedDischarge + s.uncommandedDischarge = dischargeOf s.units := by
  refine (totalOf_add s.units (fun u => if u.commanded then u.estimate else 0)
    (fun u => if u.uncommanded then u.estimate else 0)).trans ?_
  refine congrArg List.sum (List.map_congr_left fun i _ => ?_)
  generalize s.units.get i = u
  have hc : u.commanded = decide u.onDuty := by simp [UnitRec.commanded]
  have hu : u.uncommanded = decide u.loose := by simp [UnitRec.uncommanded]
  simp only [hc, hu, decide_eq_true_eq]
  by_cases h1 : u.onDuty
  · have h2 : ¬u.loose := by rcases h1 with h | h <;> simp [h]
    simp [h1, h2]
  · simp [h1]

/-- Committed and run-down power, in the words of the claims (R128). -/
theorem State.committedPower_eq (s : State) : s.committedPower = s.powerDrawn s.units :=
  congrArg List.sum (List.map_congr_left fun i _ => by
    simp [UnitRec.drawsPower, UnitRec.commanded, UnitRec.uncommanded, State.ratedPower, State.classOfUnit, State.powerOf,
      or_assoc])

theorem State.rundownPower_eq (s : State) : s.rundownPower = s.powerEnding s.units := rfl

/-- Free capacity, in the words of the claims (R128). -/
theorem State.freeCapacity_eq (s : State) : s.freeCapacity = s.freeOf s.units := by
  have h := s.discharge_eq
  have hr : s.rundownDischarge = totalOf s.units fun u => if u.state = .stopping then u.estimate else 0 := rfl
  simp only [State.freeCapacity, State.freeOf, ← h, ← hr]
  omega

/-- A credit that is computed at the mark of the last one is 0 (R149, R150). -/
theorem UnitRec.owes_of_mark {u : UnitRec} {now : Second} (h : u.creditMark = now) : u.owes now = 0 := by
  simp [UnitRec.owes, h]

end Sys2Proof.Machine
end

