-- ==== Sys2Proof/Laws/Fields.lean ====
section
/-! SUPPORT. Fields of an answer: reading a big-endian field back gives the number written, whatever stands before and behind
it (R1). -/

namespace Sys2Proof.Machine

@[simp] theorem beBytes_length (n v : Nat) : (beBytes n v).length = n := by
  induction n with
  | zero => rfl
  | succ n ih => simp [beBytes, ih]

@[simp] theorem beSigned_length (n : Nat) (v : Int) : (beSigned n v).length = n := by simp [beSigned]

/-- A field behind a list of bytes. -/
theorem fieldAt_append_right (a b : List Byte) (k n : Nat) : fieldAt (a ++ b) (a.length + k) n = fieldAt b k n := by
  have h : a.drop (a.length + k) = [] := List.drop_eq_nil_of_le (by omega)
  simp [fieldAt, List.drop_append, h]

/-- A field inside the front part. -/
theorem fieldAt_append_left (a b : List Byte) (k n : Nat) (h : k + n ≤ a.length) :
    fieldAt (a ++ b) k n = fieldAt a k n := by
  unfold fieldAt
  rw [List.drop_append_of_le_length (by omega), List.take_append_of_le_length (by simp; omega)]

theorem foldl_beBytes (n v acc : Nat) :
    (beBytes n v).foldl (fun a b => a * 256 + b.toNat) acc = acc * 256 ^ n + v % 256 ^ n := by
  induction n generalizing acc with
  | zero => simp [beBytes, Nat.mod_one]
  | succ n ih =>
    rw [beBytes, List.foldl_cons, ih, BitVec.toNat_ofNat, show (2 : Nat) ^ 8 = 256 from rfl]
    have e : v % 256 ^ (n + 1) = 256 ^ n * (v / 256 ^ n % 256) + v % 256 ^ n := by
      rw [Nat.pow_succ, Nat.mod_mul, Nat.add_comm]
    rw [e, show 256 ^ (n + 1) = 256 ^ n * 256 from rfl]
    generalize v / 256 ^ n % 256 = q
    generalize v % 256 ^ n = r
    generalize 256 ^ n = m
    rw [Nat.add_mul, Nat.mul_assoc, Nat.mul_comm 256 m, Nat.mul_comm q m, Nat.add_assoc]

/-- A field reads the number that was written, as far as its bytes hold it. -/
@[simp] theorem fieldAt_beBytes (n v : Nat) : fieldAt (beBytes n v) 0 n = v % 256 ^ n := by
  have h : (beBytes n v).take n = beBytes n v := List.take_of_length_le (by simp)
  simp [fieldAt, h, foldl_beBytes]

/-- The field behind `a` reads the number written there. -/
theorem fieldAt_beBytes_between (a b : List Byte) (k n v : Nat) (h : a.length = k) :
    fieldAt (a ++ (beBytes n v ++ b)) k n = v % 256 ^ n := by
  subst h
  have := fieldAt_append_right a (beBytes n v ++ b) 0 n
  rw [Nat.add_zero] at this
  rw [this, fieldAt_append_left _ _ _ _ (by simp), fieldAt_beBytes]

/-- A signed field reads the number written, in two's complement. -/
theorem fieldAt_beSigned_between (a b : List Byte) (k n : Nat) (v : Int) (h : a.length = k) :
    (fieldAt (a ++ (beSigned n v ++ b)) k n : Int) = v % (256 ^ n : Nat) := by
  rw [beSigned, fieldAt_beBytes_between _ _ _ _ _ h]
  have hp : (0 : Int) < (256 ^ n : Nat) := by exact_mod_cast Nat.pos_of_ne_zero (by simp)
  have h0 := Int.emod_nonneg v (Int.ne_of_gt hp)
  have h1 := Int.emod_lt_of_pos v hp
  have e : (v.emod (256 ^ n : Nat)) = v % (256 ^ n : Nat) := rfl
  rw [e, Nat.mod_eq_of_lt (by omega)]
  omega

/-- A field one byte wide. -/
theorem fieldAt_cons_zero (x : Byte) (l : List Byte) : fieldAt (x :: l) 0 1 = x.toNat := by simp [fieldAt]

theorem fieldAt_cons_succ (x : Byte) (l : List Byte) (k n : Nat) : fieldAt (x :: l) (k + 1) n = fieldAt l k n := by
  simp [fieldAt]

end Sys2Proof.Machine
end

