-- ==== Sys2Proof/Laws/Frames.lean ====
section
/-! SUPPORT. Everything `State.takeFrame` can do, said once: nothing outside RECEIVING but the position, BAD_CHECK, a refusal
of R167, or the command's own reply delivered. -/

namespace Sys2Proof.Machine

/-- A running sum in the part is the sum of the bytes modulo 256. -/
theorem toNat_foldl_add (l : List Byte) (a : Byte) :
    (l.foldl (· + ·) a).toNat = (a.toNat + (l.map BitVec.toNat).sum) % 256 := by
  induction l generalizing a with
  | nil => simp [Nat.mod_eq_of_lt a.isLt]
  | cons x xs ih => simp [ih, BitVec.toNat_add]; omega

/-- The check byte is good exactly where the running sum is 90 (R163). -/
theorem Frame.good_iff (f : Frame) : f.good = true ↔ f.runningSum = 90 := by
  have key := toNat_foldl_add f.bytes 0
  simp only [Frame.good, Frame.runningSum, decide_eq_true_eq]
  constructor
  · intro h
    rw [h] at key
    simpa using key.symm
  · intro h
    refine BitVec.eq_of_toNat_eq ?_
    rw [key]
    simpa using h

/-- The port after a frame received whole and answered. -/
theorem PortIf.receive_answer (x : PortIf) (f : Frame) (r : List Byte) (a : EndAction) :
    { x.receive f.bytes with phase := .answering, response := r, endAction := a } = x.answered f r a := by
  have hs : f.bytes.foldl (· + ·) x.sum = BitVec.ofNat 8 (x.sum.toNat + f.runningSum) := by
    refine BitVec.eq_of_toNat_eq ?_
    rw [toNat_foldl_add]
    simp [Frame.runningSum]
  simp only [Frame.bytes] at hs
  simp [PortIf.receive, Frame.bytes, PortIf.answered, showsFrameShort, hs]

/-- Delivering a reply is the answer on the frame's port. -/
theorem Reply.deliver_eq (s : State) (f : Frame) (r : List Byte) (a : EndAction) :
    (Reply.mk s r a).deliver f = s.answer f r a := by
  simp [Reply.deliver, State.setPort, State.answer, PortIf.receive_answer]

/-- A valid frame heard, in the words of the claims. -/
theorem State.hear_eq (s : State) (p : PortId) : s.hear p = s.heardOn p := by
  cases p with
  | district d => simp [State.hear, State.heardOn, State.onlyIf]
  | river =>
    by_cases h : s.river.capStatus = .live <;>
      simp [State.hear, State.heardOn, State.onlyIf, State.hearRiver, State.setRiver, State.postAll, State.setNotices, h]

@[simp] theorem State.heardOn_district (s : State) (d : District) : s.heardOn (.district d) = s := rfl

@[simp] theorem State.heardOn_ports (s : State) (p : PortId) : (s.heardOn p).ports = s.ports := by cases p <;> rfl

@[simp] theorem State.heardOn_units (s : State) (p : PortId) : (s.heardOn p).units = s.units := by cases p <;> rfl

@[simp] theorem State.heardOn_bays (s : State) (p : PortId) : (s.heardOn p).bays = s.bays := by cases p <;> rfl

@[simp] theorem State.heardOn_queues (s : State) (p : PortId) : (s.heardOn p).queues = s.queues := by cases p <;> rfl

@[simp] theorem State.heardOn_clock (s : State) (p : PortId) : (s.heardOn p).clock = s.clock := by cases p <;> rfl

/-- Hearing a frame changes no refusal. -/
theorem State.portRefusal_heardOn (s : State) (p : PortId) (f : Frame) :
    (s.heardOn p).portRefusal f = s.portRefusal f := by cases p <;> rfl

/-- The command table and the code lists of the claims agree on one code: in the table or not, a service command or not,
refused on the river port or on a district port (R168, R171). -/
def rowAgrees (code : Byte) : Bool :=
  let n := code.toNat
  match commandRow code with
  | none => n ∉ commandCodes
  | some (role, _) =>
    n ∈ commandCodes && role.needsService == decide (n ∈ serviceCodes)
      && role.allows .river == !decide (0x20 ≤ n ∧ n ≤ 0x29) && role.allows (.district 0) == !decide (n ∈ riverCodes)

theorem rowAgrees_all (code : Byte) : rowAgrees code = true := by
  have all : ∀ a b : Fin 16, rowAgrees (BitVec.ofNat 8 (16 * a.val + b.val)) = true := by decide
  have h := all ⟨code.toNat / 16, by omega⟩ ⟨code.toNat % 16, by omega⟩
  have e : 16 * (code.toNat / 16) + code.toNat % 16 = code.toNat := by omega
  simpa only [e, BitVec.ofNat_toNat, BitVec.setWidth_eq] using h

/-- One role is allowed on all district ports or on none (R168). -/
theorem allows_every_district (role : Role) (d e : District) :
    role.allows (.district d) = role.allows (.district e) := by
  cases role <;> rfl

/-- The judging of R167: a refusal of steps 1 to 4, or the command's own reply. -/
theorem State.judge_eq (s : State) (f : Frame) (own : State → Reply) :
    s.judge f own =
      match s.portRefusal f with
      | some r => { state := s, response := [r] }
      | none => own s := by
  have agree := rowAgrees_all f.code
  unfold State.judge State.portRefusal
  cases hc : commandRow f.code with
  | none =>
    simp only [rowAgrees, hc, decide_eq_true_eq] at agree
    simp [agree, Reply.code, Result.byte]
  | some row =>
    obtain ⟨role, n⟩ := row
    simp only [rowAgrees, hc, Bool.and_eq_true, beq_iff_eq, decide_eq_true_eq] at agree
    obtain ⟨⟨⟨h1, h2⟩, h3⟩, h4⟩ := agree
    have hport : role.allows f.port = !decide ((0x20 ≤ f.code.toNat ∧ f.code.toNat ≤ 0x29 ∧ f.port = .river)
        ∨ (f.code.toNat ∈ riverCodes ∧ f.port ≠ .river)) := by
      cases hp : f.port with
      | river => simp [h3]
      | district d => simp [allows_every_district role d 0, h4]
    have hs : (f.code.toNat ∈ serviceCodes) = (role.needsService = true) := by rw [h2]; simp
    simp only [h1, not_true_eq_false, if_false, hport, Bool.not_not, decide_eq_true_eq, hs]
    split
    · rfl
    · cases hn : role.needsService <;> cases hv : s.svc <;> cases hm : s.store.commit <;>
        simp [State.committing, hm, Reply.code, Result.byte]

/-- A frame on a port in RECEIVING: BAD_CHECK, a refusal, or the command's own reply from the state that heard it. -/
theorem State.takeFrame_receives {s : State} {f : Frame} (own : State → Reply) (h : s.receives f) :
    s.takeFrame f own =
      .next (if f.runningSum = 90 then
        match s.portRefusal f with
        | some r => (s.heardOn f.port).answer f [r]
        | none => (own (s.heardOn f.port)).deliver f
      else s.answer f [0x10]) := by
  simp only [State.takeFrame, State.whileUp, h.1, h.2, if_true, State.replyTo, State.hear_eq, State.judge_eq,
    State.portRefusal_heardOn]
  by_cases hg : f.runningSum = 90
  · simp only [(Frame.good_iff f).2 hg, hg, if_true]
    cases s.portRefusal f with
    | none => rfl
    | some r => simp [Reply.deliver_eq]
  · have : f.good = false := by
      cases hgd : f.good with
      | false => rfl
      | true => exact absurd ((Frame.good_iff f).1 hgd) hg
    simp [this, hg, Reply.code, Reply.deliver_eq, Result.byte]

/-- An accepted frame: the command's own reply is delivered. -/
theorem State.takeFrame_accepts {s : State} {f : Frame} (own : State → Reply) (h : s.accepts f) :
    s.takeFrame f own = .next ((own (s.heardOn f.port)).deliver f) := by
  rw [State.takeFrame_receives own h.1, if_pos h.2.1, h.2.2]

/-- A frame outside RECEIVING or held in reset. -/
theorem State.takeFrame_other {s : State} {f : Frame} (own : State → Reply) :
    (s.resetN = false → s.takeFrame f own = .next s)
    ∧ (s.resetN = true → (s.ports.get f.port).phase = .idle → s.takeFrame f own = .next s)
    ∧ (s.resetN = true → (s.ports.get f.port).phase = .answering →
        s.takeFrame f own = .next (s.setPort f.port ((s.ports.get f.port).exchange f.bytes.length))) := by
  refine ⟨?_, ?_, ?_⟩ <;> intros <;> simp_all [State.takeFrame, State.whileUp]

/-- A frame always leaves a next state. -/
theorem State.takeFrame_next (s : State) (f : Frame) (own : State → Reply) : ∃ t, s.takeFrame f own = .next t :=
  ⟨_, rfl⟩

end Sys2Proof.Machine
end

