-- ==== Sys2Proof/Laws/PerInstr.lean ====
section
/-! SUPPORT. Family FrameShape: the frame a well-formed row sends holds as many bytes as its command code gives it, so the row
fits one whole frame of its port (R162, R171). -/

namespace Sys2Proof.Laws.FrameShape

/-- The frame of a well-formed row has the frame length of its code; a row that is no frame says nothing. -/
def Statement (i : Instr) : Prop :=
  i.wf = true → ∀ f, i.frame? = some f → f.bytes.length = frameLengthOf f.code

/-- A row that sends no frame. -/
theorem of_none {i : Instr} (h : i.frame? = none) : Statement i := by
  intro _ f hf
  rw [h] at hf
  cases hf

/-- A row whose frame has the length of its code. -/
theorem of_length {i : Instr} {f : Frame} (h : i.frame? = some f) (n : f.bytes.length = frameLengthOf f.code) :
    Statement i := by
  intro _ g hg
  rw [h] at hg
  cases hg
  exact n

theorem nop (p : PortId) (chk : Byte) : Statement (.nop p chk) := of_length rfl rfl

theorem readNotices (p : PortId) (chk : Byte) : Statement (.readNotices p chk) := of_length rfl rfl

theorem setNoticeMask (p : PortId) (mask : BitVec 16) (chk : Byte) : Statement (.setNoticeMask p mask chk) :=
  of_length rfl rfl

theorem readStation (p : PortId) (chk : Byte) : Statement (.readStation p chk) := of_length rfl rfl

theorem readUnit (p : PortId) (unit : Byte) (chk : Byte) : Statement (.readUnit p unit chk) := of_length rfl rfl

theorem readAllocation (p : PortId) (chk : Byte) : Statement (.readAllocation p chk) := of_length rfl rfl

theorem snapshot (p : PortId) (units kinds : Byte) (chk : Byte) : Statement (.snapshot p units kinds chk) :=
  of_length rfl rfl

theorem readSnapshot (p : PortId) (chk : Byte) : Statement (.readSnapshot p chk) := of_length rfl rfl

theorem clearTrip (p : PortId) (unit : Byte) (chk : Byte) : Statement (.clearTrip p unit chk) := of_length rfl rfl

theorem readBay (p : PortId) (bay : Byte) (chk : Byte) : Statement (.readBay p bay chk) := of_length rfl rfl

theorem reportLevel (p : PortId) (level : BitVec 16) (chk : Byte) : Statement (.reportLevel p level chk) :=
  of_length rfl rfl

theorem postOrder (p : PortId) (tag urgency : Byte) (volume deadline : BitVec 32) (chk : Byte) :
    Statement (.postOrder p tag urgency volume deadline chk) :=
  of_length rfl rfl

theorem cancelOrder (p : PortId) (tag : Byte) (chk : Byte) : Statement (.cancelOrder p tag chk) :=
  of_length rfl rfl

theorem setUrgency (p : PortId) (tag urgency : Byte) (chk : Byte) : Statement (.setUrgency p tag urgency chk) :=
  of_length rfl rfl

theorem openQueue (p : PortId) (chk : Byte) : Statement (.openQueue p chk) := of_length rfl rfl

theorem closeQueue (p : PortId) (chk : Byte) : Statement (.closeQueue p chk) := of_length rfl rfl

theorem readQueue (p : PortId) (chk : Byte) : Statement (.readQueue p chk) := of_length rfl rfl

theorem readCompletions (p : PortId) (count : Byte) (chk : Byte) : Statement (.readCompletions p count chk) :=
  of_length rfl rfl

theorem ackFloat (p : PortId) (chk : Byte) : Statement (.ackFloat p chk) := of_length rfl rfl

theorem clearUnordered (p : PortId) (chk : Byte) : Statement (.clearUnordered p chk) := of_length rfl rfl

theorem setCap (p : PortId) (cap : BitVec 16) (chk : Byte) : Statement (.setCap p cap chk) := of_length rfl rfl

theorem reportStage (p : PortId) (stage : BitVec 16) (chk : Byte) : Statement (.reportStage p stage chk) :=
  of_length rfl rfl

theorem closeStation (p : PortId) (chk : Byte) : Statement (.closeStation p chk) := of_length rfl rfl

theorem liftClosure (p : PortId) (chk : Byte) : Statement (.liftClosure p chk) := of_length rfl rfl

theorem writeCurve (p : PortId) (a : CurveArgs) (chk : Byte) : Statement (.writeCurve p a chk) := of_length rfl rfl

theorem writeUnitConfig (p : PortId) (a : UnitArgs) (chk : Byte) : Statement (.writeUnitConfig p a chk) :=
  of_length rfl rfl

theorem writeBayConfig (p : PortId) (a : BayArgs) (chk : Byte) : Statement (.writeBayConfig p a chk) :=
  of_length rfl rfl

theorem writeStationConfig (p : PortId) (a : StationArgs) (chk : Byte) : Statement (.writeStationConfig p a chk) :=
  of_length rfl rfl

theorem commitConfig (p : PortId) (chk : Byte) : Statement (.commitConfig p chk) := of_length rfl rfl

theorem readConfig (p : PortId) (kind index : Byte) (chk : Byte) : Statement (.readConfig p kind index chk) :=
  of_length rfl rfl

theorem stationReset (p : PortId) (chk : Byte) : Statement (.stationReset p chk) := of_length rfl rfl

theorem unknownCommand (p : PortId) (code chk : Byte) : Statement (.unknownCommand p code chk) := by
  intro hw f hf
  cases hf
  cases hc : commandRow code with
  | none => simp [Frame.bytes, frameLengthOf, hc]
  | some row => simp [Instr.wf, hc] at hw

theorem selNFall (p : PortId) : Statement (.selNFall p) := of_none rfl

theorem shortTransaction (p : PortId) (bytes : List Byte) : Statement (.shortTransaction p bytes) := of_none rfl

theorem endOfTransaction (p : PortId) (n : Nat) : Statement (.endOfTransaction p n) := of_none rfl

theorem powerOn : Statement .powerOn := of_none rfl

theorem resetNFall : Statement .resetNFall := of_none rfl

theorem resetNRise : Statement .resetNRise := of_none rfl

theorem secondMark : Statement .secondMark := of_none rfl

theorem freshnessFall (b : District) : Statement (.freshnessFall b) := of_none rfl

theorem stageFreshnessFall : Statement .stageFreshnessFall := of_none rfl

theorem capStatusHeld : Statement .capStatusHeld := of_none rfl

theorem fallbackEvent : Statement .fallbackEvent := of_none rfl

theorem profileComesIntoForce : Statement .profileComesIntoForce := of_none rfl

theorem runHoldExpiry (u : UnitId) : Statement (.runHoldExpiry u) := of_none rfl

theorem restExpiry (u : UnitId) : Statement (.restExpiry u) := of_none rfl

theorem startTimeoutExpiry (u : UnitId) : Statement (.startTimeoutExpiry u) := of_none rfl

theorem stopTimeoutExpiry (u : UnitId) : Statement (.stopTimeoutExpiry u) := of_none rfl

theorem travelTimeoutExpiry (u : UnitId) : Statement (.travelTimeoutExpiry u) := of_none rfl

theorem startHistoryAgeing (u : UnitId) : Statement (.startHistoryAgeing u) := of_none rfl

theorem deadlineExpiry (d : District) : Statement (.deadlineExpiry d) := of_none rfl

theorem commitEnd (equal : Bool) : Statement (.commitEnd equal) := of_none rfl

theorem evaluation : Statement .evaluation := of_none rfl

theorem floatLineRise (b : District) : Statement (.floatLineRise b) := of_none rfl

theorem floatLineFall (b : District) : Statement (.floatLineFall b) := of_none rfl

theorem availRise (u : UnitId) : Statement (.availRise u) := of_none rfl

theorem availFall (u : UnitId) : Statement (.availFall u) := of_none rfl

theorem atspeedRise (u : UnitId) : Statement (.atspeedRise u) := of_none rfl

theorem atspeedFall (u : UnitId) : Statement (.atspeedFall u) := of_none rfl

theorem selposChange (u : UnitId) (pos : Fin 4) : Statement (.selposChange u pos) := of_none rfl

theorem pselChange (code : Fin 4) : Statement (.pselChange code) := of_none rfl

theorem svcChange (high : Bool) : Statement (.svcChange high) := of_none rfl

theorem selNRiseInIdle (p : PortId) : Statement (.selNRiseInIdle p) := of_none rfl

end Sys2Proof.Laws.FrameShape
end

