-- ==== Sys2Proof/Tests/Slice0.lean ====
section
/-! SUPPORT. Tests of one command each, with the spec's worked cases as their source; the smoke test of the well-formedness
check; and, for every statement with hypotheses, states that meet them. -/

namespace Sys2Proof.Tests

open Sys2Proof.Machine

/-! ### Small states -/

/-- The check byte of a frame (R163). -/
def chkOf (code : Byte) (args : List Byte) : Byte := 90 - (code :: args).foldl (· + ·) 0

/-- The state after one command, where it leaves one. -/
def after (c : Instr) (s : State) : Option State :=
  match exec c s with
  | .next t => some t
  | .fault _ => none
  | .refused _ => none

/-- `s` with SEL_n of port `p` low and a transaction begun. -/
def receiving (p : PortId) (s : State) : State := s.setPort p { resetPort false with phase := .receiving }

/-- `s` with port `p` in ANSWERING at a position, behind a frame of two bytes. -/
def answering (p : PortId) (position : Nat) (a : EndAction) (s : State) : State :=
  s.setPort p { resetPort false with phase := .answering, position := position, endAction := a }

/-- The response built on port `p` after one command. -/
def responseOn (p : PortId) (c : Instr) (s : State) : Option (List Byte) :=
  (after c s).map fun t => (t.ports.get p).response

/-- `s` with unit `i` changed. -/
def onUnitRec (i : UnitId) (f : UnitRec → UnitRec) (s : State) : State := s.setUnit i (f (s.units.get i))

/-- `s` with bay `d` changed. -/
def onBayRec (d : District) (f : Bay → Bay) (s : State) : State := s.setBay d (f (s.bays.get d))

/-- `s` with queue `d` changed. -/
def onQueueRec (d : District) (f : OrderQueue → OrderQueue) (s : State) : State := s.setQueue d (f (s.queues.get d))

/-- `s` at a station second. -/
def at_ (now : Second) (s : State) : State := { s with clock := now }

/-- Curve class C1 of the example station (section 11.4). -/
def classC1 : CurveClass :=
  { heads := ⟨0, 2000, 4000, 6000, 8000, 10000⟩, flows := ⟨5200, 5000, 4600, 3900, 2700, 0⟩, qMin := 1000, power := 400 }

def classC2 : CurveClass :=
  { heads := ⟨0, 2000, 4000, 6000, 8000, 9500⟩, flows := ⟨2600, 2450, 2200, 1800, 1100, 0⟩, qMin := 500, power := 160 }

def classC3 : CurveClass :=
  { heads := ⟨0, 1500, 3000, 4500, 6000, 7500⟩, flows := ⟨1100, 1050, 950, 800, 550, 0⟩, qMin := 200, power := 60 }

/-- A unit of the example station at rest in IDLE at bay `b`, its selector there. -/
def exampleUnit (c : ClassId) (r : Tri Bool) (b : District) : UnitRec :=
  { State.reset.units.a0 with
    state := .idle, commandedBay := b, selPos := b.castSucc, selCmd := some b, avail := true
    cfg := { factoryUnit with enable := true, cls := c, reach := r } }

/-- A bay of the example station with a fresh report. -/
def exampleBay (floor floatLevel level : Int) (mode : FloatMode) (weight : Nat) : Bay :=
  { State.reset.bays.a0 with
    reported := some level, levelUsed := level
    cfg := { floor := floor, floatLevel := floatLevel, floatMode := mode, weight := weight } }

/-- The example station at the surge tide of section 2.8 (bay B2 UNKNOWN), without closure, with the cap 13,999 LIVE, every unit
IDLE. -/
def surge : State :=
  { State.reset with
    curves := ⟨factoryCurve, classC1, classC2, classC3⟩
    station := { sill := 2400, fallbackCap := 9000, budgets := ⟨1200, 900, 480⟩, spacings := ⟨60, 120, 180⟩ }
    bays :=
      ⟨exampleBay (-3600) (-1900) (-2900) .latched 5, exampleBay (-3200) (-1600) (-2480) .latched 3,
        { exampleBay (-4100) (-2500) (-2500) .selfClearing 4 with reported := none }⟩
    river := { State.reset.river with stage := some 3150, cap := 13999, capStatus := .live, closure := none }
    units :=
      ⟨exampleUnit 1 ⟨true, true, false⟩ 0, exampleUnit 1 ⟨true, true, false⟩ 1, exampleUnit 1 ⟨false, true, true⟩ 2,
        exampleUnit 1 ⟨false, true, true⟩ 1, exampleUnit 2 ⟨true, true, true⟩ 1, exampleUnit 2 ⟨true, false, true⟩ 0,
        exampleUnit 3 ⟨true, false, false⟩ 0, exampleUnit 3 ⟨false, false, true⟩ 2⟩ }

/-- The unit runs with this estimate, credit mark and run-hold. -/
def run (estimate : Nat) (mark : Second) (hold : Nat) (u : UnitRec) : UnitRec :=
  { u with
    state := .running, atSpeed := true, runReq := true, estimate := estimate, creditMark := mark
    runHold := loadTimer hold }

/-- An order with nothing pumped yet, as section 8.8 and others name them. -/
def order (tag : Byte) (u : Urgency) (remaining : Nat) (st : OrderState) : Order :=
  { tag := tag, urgency := u, posted := max remaining 1000, remaining := remaining, postedAt := 0, deadline := none, state := st }

/-- A completion record of a cancelled order. -/
def record (tag : Byte) : Completion :=
  { tag := tag, outcome := .cancelled, posted := 1000, remaining := 1000, overshoot := 0, carried := false, finishedAt := 0 }

/-! ### Curves and heads (sections 1.11, 2.3, 2.8) -/

theorem test_class_C1_at_the_heads_of_the_worked_case :
    [4000, 4350, 4750, 4880, 5630, 8500, 10000, 20000].map classC1.flowAt
      = [4600, 4478, 4338, 4292, 4030, 2025, 0, 0] := by decide

theorem test_heads_and_estimates_at_the_surge_tide :
    districts.map surge.head = [6050, 5630, 5650]
    ∧ districts.map (surge.estimateAt 1) = [3870, 4030, 4023]
    ∧ districts.map (surge.estimateAt 2) = [1783, 1874, 1870]
    ∧ districts.map (surge.estimateAt 3) = [532, 612, 609] := by decide

/-! ### Frames on any port (section 9.3) -/

theorem test_nop_is_answered_ok :
    responseOn (.district 1) (.nop (.district 1) 89) (receiving (.district 1) surge) = some [0x00] := by decide

theorem test_nop_with_a_bad_check_byte :
    responseOn .river (.nop .river 88) (receiving .river surge) = some [0x10] := by decide

/-- The evaluation at mark 1,000 of section 7.15: state just before it. -/
def flood : State :=
  let s := { surge with clock := 1000, disp := { surge.disp with evalDue := true, lastStart := some 930 } }
  let s := onUnitRec 0 (run 3870 990 0) s
  let s := onUnitRec 1 (run 4030 990 120) s
  let s := onUnitRec 3 (fun u => { u with state := .resting, rest := loadTimer 300 }) s
  let s := onUnitRec 5 (run 1783 990 45) s
  let s := onUnitRec 7 (fun u => { u with state := .resting, rest := loadTimer 500 }) s
  let s := onBayRec 1 (fun b => { b with floatDemand := true }) s
  let s := onQueueRec 0 (fun q => { q with gateOpen := true, orders := [order 1 .routine 9000000 .active] }) s
  onQueueRec 2 (fun q => { q with gateOpen := true, orders := [order 2 .high 9000000 .active] }) s

theorem test_evaluation_at_the_flood_tide :
    (after .evaluation flood).map (fun t =>
        (t.disp.table, (t.units.get 0).state, (t.units.get 0).stopReason, (t.units.get 4).state, t.disp.lastStart))
      = some
        (⟨{ demanding := true, urgency := some .routine, weight := 5, entitlement := 2799, use := 1783, deficit := 1016
            starved := false },
          { demanding := true, urgency := some .emergency, weight := 12, entitlement := 6719, use := 5904, deficit := 815
            starved := false },
          { demanding := true, urgency := some .high, weight := 8, entitlement := 4479, use := 0, deficit := 4479
            starved := true }⟩,
          .stopping, some .rebalance, .starting, some 1000) := by decide +kernel

/-! ### Frames on any port (sections 9.3, 10.3, 10.4, 3.17) -/

theorem test_read_notices_returns_the_field_522 :
    responseOn (.district 2) (.readNotices (.district 2) (chkOf 0x03 []))
        (receiving (.district 2) (surge.setNotice (.district 2) { resetNoticePort with set := 522 }))
      = some [0x00, 0x02, 0x0A] := by decide

/-- The read cut short of section 10.3: LEVEL_AGED is cleared, UNIT_TRIP and ORDER_FINISHED stay. -/
theorem test_end_of_a_cut_read_notices :
    (after (.endOfTransaction (.district 2) 0)
        (answering (.district 2) 4 (.clearNotices 522)
          (surge.setNotice (.district 2) { resetNoticePort with set := 522, mask := 0, since := 2, attn := true }))).map
      (fun t => ((t.notices.get (.district 2)).set, (t.notices.get (.district 2)).attn))
      = some (10, true) := by decide

theorem test_set_notice_mask_drives_the_line :
    (after (.setNoticeMask .river 0xC000 (chkOf 0x04 [0xC0, 0x00])) (receiving .river surge)).map
      (fun t => (t.notices.river.mask, t.notices.river.attn)) = some (0, true) := by decide

theorem test_read_station_shows_the_cap :
    (responseOn .river (.readStation .river (chkOf 0x05 [])) (receiving .river surge)).map
      (fun r => (r.length, (r.drop 8).take 2)) = some (34, [0x36, 0xAF]) := by decide +kernel

theorem test_read_unit_eight_is_a_bad_value :
    responseOn .river (.readUnit .river 8 (chkOf 0x06 [8])) (receiving .river surge)
      = some (0x20 :: List.replicate 40 0) := by decide

theorem test_read_unit_shows_enable_class_and_reach :
    (responseOn .river (.readUnit .river 7 (chkOf 0x06 [7])) (receiving .river surge)).map
      (fun r => (r.length, (r.drop 27).take 5)) = some (41, [1, 3, 4, 0x01, 0x2C]) := by decide +kernel

/-- An entry whose ageing out is not taken yet keeps the age within the range of R82. -/
theorem test_read_unit_age_stays_in_range :
    (responseOn .river (.readUnit .river 7 (chkOf 0x06 [7]))
        (receiving .river { onUnitRec 7 (fun u => { u with history := [200] }) surge with clock := 3800 })).map
      (fun r => (r.drop 22).take 3) = some [1, 14, 15] := by decide +kernel

theorem test_read_allocation_after_reset :
    (responseOn .river (.readAllocation .river (chkOf 0x07 [])) (receiving .river State.reset)).map
      (fun r => (r.length, r[36]?, r[50]?, r[64]?, r.count 0)) = some (77, some 255, some 255, some 255, 74) := by
  decide +kernel

/-- A status entry that is latched and unread stays; the other kind is latched (R182). -/
theorem test_snapshot_leaves_a_latched_entry :
    let old : StatusEntry :=
      { state := .running, tripReason := none, selPos := 0, commandedBay := 0, estimate := 3870, configPending := false }
    let s := surge.setNotice .river
      { resetNoticePort with buffer := resetNoticePort.buffer.set 0 { status := some old, timers := none } }
    (after (.snapshot .river 0x01 0x03 (chkOf 0x08 [0x01, 0x03])) (receiving .river s)).map
      (fun t => (t.notices.river.buffer.get 0, t.notices.river.buffer.get 1))
      = some
        ({ status := some old
           timers := some { runHold := 0, rest := 0, stateTimer := 0, historyLength := 0, oldestAge := 0 } },
          emptyLatches) := by decide +kernel

/-- U4 of section 3.18 at 704.3, estimate 1,870. -/
def latchedU4 : Oct Latches :=
  resetNoticePort.buffer.set 4
    { status := some
        { state := .switching, tripReason := none, selPos := 3, commandedBay := 2, estimate := 1870, configPending := false }
      timers := some { runHold := 0, rest := 136, stateTimer := 116, historyLength := 0, oldestAge := 0 } }

theorem test_read_snapshot_lists_status_before_timers :
    responseOn .river (.readSnapshot .river (chkOf 0x09 []))
        (receiving .river (surge.setNotice .river { resetNoticePort with buffer := latchedU4 }))
      = some [0x00, 2, 4, 0, 3, 255, 3, 2, 0x07, 0x4E, 0, 4, 1, 0, 0, 0, 136, 0, 116, 0, 0, 0] := by decide +kernel

/-- The status entry went out in full and one byte of the timers entry is missing (R183). -/
theorem test_end_of_read_snapshot_keeps_a_part :
    (after (.endOfTransaction .river 0)
        (answering .river 23 (.removeSnapshots [(4, false), (4, true)])
          (surge.setNotice .river { resetNoticePort with buffer := latchedU4 }))).map
      (fun t => ((t.notices.river.buffer.get 4).status.isSome, (t.notices.river.buffer.get 4).timers.isSome))
      = some (false, true) := by decide

/-- U5 of section 3.17. -/
def weldedU5 (fast : Bool) : State :=
  onUnitRec 5 (fun u => { u with state := .tripped, tripReason := some .stopTimeout, atSpeed := fast }) surge

theorem test_clear_trip_of_a_running_motor :
    responseOn .river (.clearTrip .river 5 (chkOf 0x0A [5])) (receiving .river (weldedU5 true)) = some [0x24] := by decide

theorem test_clear_trip_at_640 :
    (after (.clearTrip (.district 0) 5 (chkOf 0x0A [5])) (receiving (.district 0) (weldedU5 false))).map
      (fun t => ((t.units.get 5).state, (t.units.get 5).rest.left, (t.units.get 5).tripReason, (t.units.get 5).clearedBy))
      = some (.resting, 600, none, some (.district 0)) := by decide

/-- Cases a and the C1 line of sections 1.11 and 2.8. -/
theorem test_read_bay_b1 :
    (responseOn .river (.readBay .river 1 (chkOf 0x0B [1])) (receiving .river surge)).map
      (fun r => (r.length, (r.drop 12).take 2, (r.drop 22).take 2)) = some (28, [0x15, 0xFE], [0x0F, 0xBE]) := by
  decide +kernel

theorem test_read_config_of_bay_b0 :
    responseOn .river (.readConfig .river 2 0 (chkOf 0x65 [2, 0])) (receiving .river surge)
      = some [0x00, 0, 0xF1, 0xF0, 0xF8, 0x94, 1, 5] := by decide +kernel

theorem test_unknown_command_restarts_the_silence :
    let s := receiving .river (surge.setRiver { surge.river with silence := 7 })
    responseOn .river (.unknownCommand .river 0x7E (chkOf 0x7E [])) s = some [0x11]
    ∧ (after (.unknownCommand .river 0x7E (chkOf 0x7E [])) s).map (fun t => t.river.silence) = some 0 := by decide

/-! ### Frames on the district ports (sections 9.3, 1.8, 5.12, 5.13) -/

theorem test_report_level_of_the_worked_transaction :
    (after (.reportLevel (.district 1) 63056 244) (receiving (.district 1) surge)).map
      (fun t => ((t.bays.get 1).reported, (t.ports.get (.district 1)).response)) = some (some (-2480), [0x00]) := by decide

/-- Section 1.8 at 12.4. -/
theorem test_report_level_below_the_floor :
    (after (.reportLevel (.district 0) (BitVec.ofInt 16 (-3650)) (chkOf 0x20 [0xF1, 0xBE]))
        (receiving (.district 0) surge)).map
      (fun t => ((t.bays.get 0).lowSuction, (t.bays.get 0).levelUsed, t.disp.request,
        holds (t.notices.get (.district 0)).set .lowSuction)) = some (true, -3650, true, true) := by decide

/-- Order 12 of section 5.12. -/
def order12 (remaining : Nat) (st : OrderState) : Order :=
  { tag := 12, urgency := .high, posted := 25000, remaining := remaining, postedAt := 41, deadline := none, state := st }

/-- Section 5.12 at 55.6: the deadline of 30 s is clamped. -/
theorem test_post_order_clamps_the_deadline :
    (after (.postOrder (.district 1) 14 0 500000 30 (chkOf 0x21 [14, 0, 0, 0x07, 0xA1, 0x20, 0, 0, 0, 30]))
        (receiving (.district 1) (at_ 55 (onQueueRec 1 (fun q => { q with orders := [order12 25000 .suspended] }) surge)))).map
      (fun t => ((t.ports.get (.district 1)).response, (t.queues.get 1).orders.map (fun o => (o.tag, o.state, o.deadline))))
      = some ([0x01, 2], [(12, .suspended, none), (14, .queued, some 60)]) := by decide

theorem test_post_order_with_a_tag_in_use :
    responseOn (.district 1) (.postOrder (.district 1) 12 0 8000 0 (chkOf 0x21 [12, 0, 0, 0, 0x1F, 0x40, 0, 0, 0, 0]))
        (receiving (.district 1) (onQueueRec 1 (fun q => { q with orders := [order12 25000 .active] }) surge))
      = some [0x22, 1] := by decide

/-- The cancel of section 9.3. -/
theorem test_cancel_order_of_the_worked_transaction :
    (after (.cancelOrder (.district 1) 3 53)
        (receiving (.district 1)
          (onQueueRec 1
            (fun q => { q with orders := [order 3 .routine 45820 .active, order 5 .routine 200000 .queued] }) surge))).map
      (fun t => ([3, 4, 5, 6, 7, 8, 9].map (t.dataOut (.district 1)), (t.queues.get 1).orders.map Order.state,
        (t.queues.get 1).completions.map Completion.remaining))
      = some ([0, 0, 0, 0, 178, 252, 0].map some, [.active], [45820]) := by decide

theorem test_set_urgency_changes_one_order :
    (after (.setUrgency (.district 1) 9 2 (chkOf 0x23 [9, 2]))
        (receiving (.district 1)
          (onQueueRec 1 (fun q => { q with orders := [order 7 .routine 25000 .active, order 9 .high 500000 .queued] })
            surge))).map
      (fun t => (t.queues.get 1).orders.map (fun o => (o.tag, o.urgency, o.remaining)))
      = some [(7, .routine, 25000), (9, .emergency, 500000)] := by decide

theorem test_open_queue_finds_an_order :
    responseOn (.district 1) (.openQueue (.district 1) (chkOf 0x24 []))
        (receiving (.district 1) (onQueueRec 1 (fun q => { q with orders := [order12 25000 .suspended] }) surge))
      = some [0x00, 1]
    ∧ responseOn (.district 1) (.openQueue (.district 1) (chkOf 0x24 [])) (receiving (.district 1) surge)
      = some [0x00, 0] := by decide

theorem test_close_queue :
    (after (.closeQueue (.district 0) (chkOf 0x25 [])) (receiving (.district 0) flood)).map
      (fun t => ((t.queues.get 0).gateOpen, (t.queues.get 0).orders.length)) = some (false, 1) := by decide

/-- Section 5.12 at 90.4. -/
theorem test_read_queue :
    responseOn (.district 1) (.readQueue (.district 1) (chkOf 0x26 []))
        (receiving (.district 1)
          (onQueueRec 1 (fun q => { q with gateOpen := true, orders := [order12 5000 .active], pumped := 20000 }) surge))
      = some [0x00, 1, 1, 0, 0, 0, 0, 0, 0, 0, 0, 0, 0x4E, 0x20, 12, 1, 1, 0, 0, 0x61, 0xA8, 0, 0, 0x13, 0x88, 0, 0, 0, 41, 0,
          0, 0, 0] := by decide +kernel

theorem test_read_completions_takes_what_is_held :
    (responseOn (.district 1) (.readCompletions (.district 1) 255 (chkOf 0x27 [255]))
        (receiving (.district 1) (onQueueRec 1 (fun q => { q with completions := [record 14, record 12] }) surge))).map
      (fun r => (r.length, r.take 4)) = some (40, [0x00, 2, 14, 1]) := by decide +kernel

/-- Section 5.12 at 150.2: the first record and 7 bytes of the second; section 5.13: three records out, one dropped before. -/
theorem test_end_of_read_completions :
    (after (.endOfTransaction (.district 1) 28)
        (answering (.district 1) 2 (.removeCompletions 3)
          (onQueueRec 1 (fun q => { q with completions := [record 14, record 12, record 13] }) surge))).map
      (fun t => (t.queues.get 1).completions.map Completion.tag) = some [12, 13]
    ∧ (after (.endOfTransaction (.district 2) 59)
        (answering (.district 2) 2 (.removeCompletions 8)
          (onQueueRec 2 (fun q => { q with completions := [4, 5, 6, 7, 8, 9, 10, 21].map record, readDrops := 1 }) surge))).map
      (fun t => (t.queues.get 2).completions.map Completion.tag) = some [6, 7, 8, 9, 10, 21] := by decide

/-- Section 1.8: refused at 200, taken at 270.1. -/
theorem test_ack_float :
    let s (high : Bool) := receiving (.district 0)
      (onBayRec 0 (fun b => { b with floatInput := high, floatDemand := true }) surge)
    responseOn (.district 0) (.ackFloat (.district 0) (chkOf 0x28 [])) (s true) = some [0x25]
    ∧ (after (.ackFloat (.district 0) (chkOf 0x28 [])) (s false)).map
        (fun t => ((t.bays.get 0).floatDemand, t.disp.request)) = some (false, true) := by decide

/-- Section 5.12 at 160.0. -/
theorem test_clear_unordered :
    (after (.clearUnordered (.district 1) (chkOf 0x29 []))
        (receiving (.district 1) (onQueueRec 1 (fun q => { q with unordered := 3000, pumped := 28000 }) surge))).map
      (fun t => ((t.ports.get (.district 1)).response, (t.queues.get 1).unordered, (t.queues.get 1).pumped))
      = some ([0x00, 0, 0, 0x0B, 0xB8], 0, 28000) := by decide +kernel

/-! ### Frames on the river port (chapters 1 and 6, section 8.8) -/

theorem test_set_cap_above_the_range :
    (after (.setCap .river 60001 (chkOf 0x40 [0xEA, 0x61])) (receiving .river surge)).map
      (fun t => (t.ports.river.response, t.river.cap, t.disp.request, holds (t.notices.get (.district 2)).set .capChanged))
      = some ([0x01], 60000, true, true) := by decide

theorem test_set_cap_on_a_district_port_is_refused :
    responseOn (.district 2) (.setCap (.district 2) 100 (chkOf 0x40 [0, 100])) (receiving (.district 2) surge)
      = some [0x12] := by decide

theorem test_report_stage_below_the_range :
    (after (.reportStage .river (BitVec.ofInt 16 (-5001)) (chkOf 0x41 [0xEC, 0x77])) (receiving .river surge)).map
      (fun t => (t.ports.river.response, t.river.stage, t.river.stageAge)) = some ([0x01], some (-5000), 0) := by decide

/-- Section 8.8 at 236.3. -/
def run236 : State :=
  at_ 236 (onUnitRec 1 (run 4030 220 278)
    (onQueueRec 1 (fun q => { q with orders := [order 3 .routine 45820 .active, order 5 .routine 200000 .queued] }) surge))

theorem test_close_station_of_the_worked_case :
    (after (.closeStation .river (chkOf 0x42 [])) (receiving .river run236)).map
      (fun t => ((t.units.get 1).state, (t.units.get 1).stateTimer.left, (t.queues.get 1).orders.map Order.remaining))
      = some (.stopping, 60, [181340])
    ∧ (after (.closeStation .river (chkOf 0x42 [])) (receiving .river run236)).map
      (fun t => (t.queues.get 1).completions.map fun r => (r.tag, r.overshoot, r.carried)) = some [(3, 18660, true)] := by
  decide +kernel

/-- Section 5.12 at 71.8. -/
theorem test_lift_closure_resumes_the_oldest_order :
    (after (.liftClosure .river (chkOf 0x43 []))
        (receiving .river
          (onQueueRec 1 (fun q => { q with orders := [order12 25000 .suspended] })
            (surge.setRiver { surge.river with closure := some .reset })))).map
      (fun t => (t.river.closure, (t.queues.get 1).orders.map Order.state, t.disp.request))
      = some (none, [.active], true) := by decide

/-! ### Frames of the service role (section 2.2, chapter 11) -/

/-- The example station in service mode. -/
def service : State := { surge with svc := true }

/-- The record of class C3 (section 2.2) with its q_min and H5. -/
def argsC3 (qMin h5 : BitVec 16) : CurveArgs :=
  { cls := 3, heads := ⟨0, 1500, 3000, 4500, 6000, h5⟩, flows := ⟨1100, 1050, 950, 800, 550, 0⟩, qMin := qMin, power := 60 }

theorem test_write_curve_clamps_the_last_head :
    (after (.writeCurve .river (argsC3 200 21000) (chkOf 0x60 (argsC3 200 21000).bytes)) (receiving .river service)).map
      (fun t => (t.ports.river.response, t.curves.a3)) = some ([0x01], { classC3 with heads := ⟨0, 1500, 3000, 4500, 6000, 20000⟩ }) := by
  decide +kernel

theorem test_write_curve_out_of_shape :
    (after (.writeCurve .river (argsC3 1200 7500) (chkOf 0x60 (argsC3 1200 7500).bytes)) (receiving .river service)).map
      (fun t => (t.ports.river.response, t.curves.a3)) = some ([0x26], classC3) := by decide +kernel

/-- A unit configuration with the timing of the example station. -/
def unitArgs (unit enable cls reach : Byte) : UnitArgs :=
  { unit := unit, enable := enable, cls := cls, reach := reach, minRun := 300, minRest := 600, maxStarts := 4, startTimeout := 30
    stopTimeout := 60, travelTimeout := 120 }

theorem test_write_unit_config_waits_in_running :
    let a := unitArgs 0 0 1 0xFB
    (after (.writeUnitConfig .river a (chkOf 0x61 a.bytes)) (receiving .river (onUnitRec 0 (run 3870 0 100) service))).map
      (fun t => (t.ports.river.response, (t.units.get 0).cfg.enable, (t.units.get 0).pendingCfg.map UnitConfig.enable,
        (t.units.get 0).pendingCfg.map UnitConfig.reach))
      = some ([0x00], true, some false, some ⟨true, true, false⟩) := by decide +kernel

theorem test_write_unit_config_without_reach :
    let a := unitArgs 0 1 1 0xF8
    responseOn .river (.writeUnitConfig .river a (chkOf 0x61 a.bytes)) (receiving .river service) = some [0x20] := by
  decide +kernel

def bayArgs (floor floatLevel : Int) (mode weight : Byte) : BayArgs :=
  { bay := 0, floor := BitVec.ofInt 16 floor, floatLevel := BitVec.ofInt 16 floatLevel, floatMode := mode, weight := weight }

theorem test_write_bay_config_with_a_low_float_level :
    let a := bayArgs (-3600) (-3501) 1 5
    responseOn .river (.writeBayConfig .river a (chkOf 0x62 a.bytes)) (receiving .river service) = some [0x20] := by
  decide +kernel

/-- LATCHED to SELF_CLEARING under a low float (R17). -/
theorem test_write_bay_config_ends_float_demand :
    let a := bayArgs (-3600) (-3500) 0 16
    (after (.writeBayConfig .river a (chkOf 0x62 a.bytes))
        (receiving .river (onBayRec 0 (fun b => { b with floatDemand := true }) service))).map
      (fun t => (t.ports.river.response, (t.bays.get 0).floatDemand, (t.bays.get 0).cfg.weight, t.disp.request))
      = some ([0x01], false, 15, true) := by decide +kernel

theorem test_write_station_config_lowers_the_cap_in_fallback :
    let a : StationArgs := { sill := 2400, fallbackCap := 8000, budgets := ⟨1200, 900, 480⟩, spacings := ⟨60, 120, 601⟩ }
    (after (.writeStationConfig (.district 0) a (chkOf 0x63 a.bytes))
        (receiving (.district 0) (service.setRiver { service.river with capStatus := .fallback, cap := 9000 }))).map
      (fun t => ((t.ports.get (.district 0)).response, t.river.cap, t.station.spacings.a2, holds t.notices.river.set .capChanged))
      = some ([0x01], 8000, 600, true) := by decide +kernel

theorem test_commit_config_copies_the_working_configuration :
    (after (.commitConfig .river (chkOf 0x64 [])) (receiving .river service)).map
      (fun t => (t.ports.river.response, t.store.image, t.store.commit.map (fun c => (c.copy.station.sill, c.marksLeft))))
      = some ([0x00], .failing, some (2400, 3)) := by decide

theorem test_commit_config_needs_service_mode :
    responseOn .river (.commitConfig .river (chkOf 0x64 [])) (receiving .river surge) = some [0x13] := by decide

/-- STATION RESET acts at the rise of SEL_n and keeps the configuration (R190). -/
theorem test_station_reset_at_the_rise :
    (after (.stationReset .river (chkOf 0x66 [])) (receiving .river (at_ 77 service))).map
      (fun t => (t.clock, t.ports.river.endAction, t.ports.river.response)) = some (77, .stationReset, [0x00])
    ∧ (after (.endOfTransaction .river 1) (answering .river 2 .stationReset (at_ 77 service))).map
      (fun t => (t.clock, t.river.closure, t.river.cap, (t.units.get 0).state, t.curves.a1))
      = some (0, some .reset, 9000, .resting, classC1) := by decide +kernel

/-! ### Edges of SEL_n and resets (chapters 9 and 11) -/

/-- After reset POWER_UP is pending, closure of origin RESET is in force and the cap status is FALLBACK (R165, R171). -/
theorem test_status_segment_after_reset :
    (after (.selNFall (.district 0)) State.reset).map
      (fun t => ((t.ports.get (.district 0)).status, (t.ports.get (.district 0)).phase)) = some ((0xC0, 0xA0), .receiving) := by
  decide

/-- The short report of section 9.3. -/
theorem test_short_report :
    (after (.shortTransaction (.district 1) [32, 246]) (receiving (.district 1) surge)).map
      (fun t => ((t.ports.get (.district 1)).frameShort, (t.ports.get (.district 1)).phase, (t.bays.get 1).reported))
      = some (true, Phase.idle, some (-2480)) := by decide

theorem test_rise_in_idle :
    (after (.selNRiseInIdle .river) (surge.setPort .river (resetPort false))).map (fun t => t.ports.river.selN)
      = some true := by decide

/-- A rise of another phase than the row's is refused (log entry 13). -/
theorem test_rise_of_another_phase :
    exec (.selNRiseInIdle .river) (receiving .river State.reset) = .refused .otherPhase := rfl

theorem test_power_on_gives_the_reset_state : after .powerOn State.reset = some State.reset := by decide +kernel

theorem test_reset_n_fall_releases_the_lines :
    (after .resetNFall (onUnitRec 1 (run 4030 0 100) surge)).map
      (fun t => (t.resetN, (t.units.get 1).runReq, (t.units.get 1).selCmd, (t.units.get 1).state))
      = some (false, false, none, .running) := by decide

/-- A running motor restarts in STOPPING (R69). -/
theorem test_reset_n_rise_finds_a_running_motor :
    (after .resetNRise
        { onUnitRec 1 (run 4030 0 100) surge with
          resetN := false, store := { image := .passing surge.working, commit := none, defaulted := true } }).map
      (fun t => ((t.units.get 1).state, (t.units.get 1).estimate, (t.units.get 1).stateTimer.left, t.store.defaulted))
      = some (.stopping, 4600 - 700 * (2400 + 1600 - 4000) / 2000, 60, false) := by decide +kernel

/-! ### The second mark and its events -/

theorem test_second_mark_wraps_the_clock :
    (after .secondMark (at_ 4294967295 surge)).map (fun t => (t.clock, t.disp.evalDue)) = some (0, true) := by decide +kernel

/-- The state timer of section 3.16: loaded with 60 at 236.3, 59 after mark 237; a timer at 1 waits for its expiry. -/
theorem test_second_mark_counts_timers :
    (after .secondMark
        (onUnitRec 1 (fun u => { u with state := .stopping, stateTimer := loadTimer 60, atSpeed := true })
          (onUnitRec 2 (fun u => { u with state := .resting, rest := loadTimer 1 }) surge))).map
      (fun t => ((t.units.get 1).stateTimer, (t.units.get 2).rest, (t.units.get 2).state))
      = some ({ left := 59, due := false }, { left := 1, due := true }, .resting) := by decide +kernel

/-- Section 1.8 at 155 and at 395. -/
theorem test_freshness_falls :
    (after (.freshnessFall 0) (onBayRec 0 (fun b => { b with reported := some (-3480), age := 59, ageDue := true }) surge)).map
      (fun t => ((t.bays.get 0).freshness, (t.bays.get 0).levelUsed, holds (t.notices.get (.district 0)).set .levelAged))
      = some (.stale, -3480, true)
    ∧ (after (.freshnessFall 0) (onBayRec 0 (fun b => { b with reported := some (-3480), age := 299, ageDue := true }) surge)).map
      (fun t => ((t.bays.get 0).freshness, (t.bays.get 0).levelUsed)) = some (.unknown, -1900) := by decide

theorem test_stage_freshness_falls :
    (after .stageFreshnessFall (surge.setRiver { surge.river with stageAge := 299, stageDue := true })).map
      (fun t => (t.river.stageFreshness, t.river.stageUsed t.station.sill, holds t.notices.river.set .stageAged))
      = some (.unknown, 2400, true) := by decide

theorem test_cap_status_held :
    (after .capStatusHeld (surge.setRiver { surge.river with silence := 119, silenceDue := true })).map
      (fun t => (t.river.capStatus, t.river.cap, t.river.silence)) = some (.held, 13999, 120) := by decide

theorem test_fallback_event_lowers_the_cap_and_ends_a_reset_closure :
    (after .fallbackEvent
        (surge.setRiver { surge.river with silence := 719, silenceDue := true, capStatus := .held, closure := some .reset })).map
      (fun t => (t.river.capStatus, t.river.cap, t.river.closure, holds t.notices.river.set .closureChanged))
      = some (.fallback, 9000, none, true) := by decide

/-- Section 6.8 at 402. -/
theorem test_profile_comes_into_force :
    (after .profileComesIntoForce
        (surge.setRiver { surge.river with pselSeen := 2, pselAge := 1, profileDue := true })).map
      (fun t => (t.river.profile, t.river.pselAge, t.disp.request, t.budget)) = some (2, 0, true, some 480) := by decide

theorem test_run_hold_expires :
    (after (.runHoldExpiry 5) (onUnitRec 5 (fun u => { run 1783 0 1 u with runHold := { left := 1, due := true } }) surge)).map
      (fun t => ((t.units.get 5).holdExpired, (t.units.get 5).state)) = some (true, .running) := by decide

/-- Section 3.16 at 851. -/
theorem test_rest_expires :
    (after (.restExpiry 1)
        (onUnitRec 1 (fun u => { u with state := .resting, rest := { left := 1, due := true } }) surge)).map
      (fun t => ((t.units.get 1).state, (t.units.get 1).rest.left)) = some (.idle, 0) := by decide

/-- Unit 5 in a state with its timer due. -/
def expiring (st : UnitState) (fast : Bool) : State :=
  onUnitRec 5 (fun u => { u with state := st, atSpeed := fast, stateTimer := { left := 1, due := true } }) surge

theorem test_start_timeout_trips :
    (after (.startTimeoutExpiry 5) (expiring .starting false)).map
      (fun t => ((t.units.get 5).state, (t.units.get 5).tripReason, t.disp.request))
      = some (.tripped, some .startTimeout, true) := by decide

/-- Section 3.17 at 563, and the end of a stop with ATSPEED low (R54). -/
theorem test_stop_timeout :
    (after (.stopTimeoutExpiry 5) (expiring .stopping true)).map
      (fun t => ((t.units.get 5).state, (t.units.get 5).tripReason, holds t.notices.river.set .unitTrip))
      = some (.tripped, some .stopTimeout, true)
    ∧ (after (.stopTimeoutExpiry 5) (expiring .stopping false)).map
      (fun t => ((t.units.get 5).state, (t.units.get 5).rest.left)) = some (.resting, 600) := by decide

theorem test_travel_timeout_trips :
    (after (.travelTimeoutExpiry 5) (expiring .switching false)).map
      (fun t => ((t.units.get 5).state, (t.units.get 5).tripReason)) = some (.tripped, some .travelTimeout) := by decide

/-- The start of 200 ages out at mark 3,800 (section 3.16). -/
theorem test_start_history_ages :
    (after (.startHistoryAgeing 1) (at_ 3800 (onUnitRec 1 (fun u => { u with history := [200, 900] }) surge))).map
      (fun t => (t.units.get 1).history) = some [900]
    ∧ (after (.startHistoryAgeing 1) (at_ 3799 (onUnitRec 1 (fun u => { u with history := [200] }) surge))).map
      (fun t => (t.units.get 1).history) = some [200] := by decide

/-- Section 5.12 at 115. -/
theorem test_deadline_cuts_order_14 :
    (after (.deadlineExpiry 1)
        (at_ 115 (onQueueRec 1
          (fun q =>
            { q with
              orders := [order12 5000 .active, { order 14 .routine 500000 .queued with postedAt := 55, deadline := some 60 }] })
          surge))).map
      (fun t => ((t.queues.get 1).orders.map Order.tag, (t.queues.get 1).completions.map (fun r => (r.tag, r.outcome, r.remaining))))
      = some ([12], [(14, .cut, 500000)]) := by decide

theorem test_commit_end :
    let s := service.setStore
      { image := .failing, commit := some { copy := service.working, marksLeft := 1, due := true }, defaulted := true }
    (after (.commitEnd true) s).map (fun t => (t.store.image, t.store.defaulted, holds t.notices.river.set .commitDone))
      = some (.passing service.working, false, true)
    ∧ (after (.commitEnd false) s).map
      (fun t => (t.store.image, t.store.defaulted, holds t.notices.river.set .commitFailed))
      = some (.failing, true, true) := by decide +kernel

/-- The credit of section 8.6. -/
theorem test_credit_with_carry :
    let q : OrderQueue :=
      { resetQueue with
        gateOpen := true, orders := [order 7 .routine 25000 .active, order 9 .routine 500000 .queued] }
    let e := q.credit false 2310 40300
    e.queue.orders.map (fun o => (o.tag, o.state, o.remaining)) = [(9, .active, 484700)]
    ∧ (e.queue.unordered, e.queue.pumped, e.finished) = (0, 40300, true)
    ∧ e.queue.completions.map (fun r => (r.tag, r.overshoot, r.carried, r.finishedAt)) = [(7, 15300, true, 2310)] := by
  decide

/-! ### Lines -/

/-- Section 1.8 at 170.3. -/
theorem test_float_rises :
    (after (.floatLineRise 0) (onBayRec 0 (fun b => { b with reported := some (-3480), age := 75, levelUsed := -3480 }) surge)).map
      (fun t => ((t.bays.get 0).floatDemand, (t.bays.get 0).levelUsed, t.disp.request,
        holds (t.notices.get (.district 0)).set .floatRise, holds t.notices.river.set .floatRise))
      = some (true, -1900, true, true, true) := by decide

/-- Section 1.8 at 260.8. -/
theorem test_float_falls_in_latched_mode :
    (after (.floatLineFall 0)
        (onBayRec 0
          (fun b => { b with reported := some (-3480), age := 165, levelUsed := -1900, floatInput := true, floatDemand := true })
          surge)).map
      (fun t => ((t.bays.get 0).floatDemand, (t.bays.get 0).levelUsed, t.disp.request)) = some (true, -3480, false) := by
  decide

/-- Section 3.18 at 805.7. -/
theorem test_avail_rise_passes_the_departure_test :
    (after (.availRise 4)
        (onUnitRec 4 (fun u => { u with state := .offline, avail := false, selPos := 2, commandedBay := 2 }) surge)).map
      (fun t => ((t.units.get 4).state, (t.units.get 4).rest.left, (t.units.get 4).commandedBay)) = some (.resting, 600, 2) := by
  decide

/-- Section 3.18 at 720.5, and the departure from RUNNING at 230.5 of section 3.16 with its credit of 40,300 L. -/
theorem test_avail_falls :
    (after (.availFall 4)
        (onUnitRec 4
          (fun u => { u with state := .switching, rest := loadTimer 120, stateTimer := loadTimer 100, selPos := 3, commandedBay := 2 })
          surge)).map
      (fun t => ((t.units.get 4).state, (t.units.get 4).rest.left, (t.units.get 4).stateTimer.left, t.disp.request,
        holds t.notices.river.set .unitOffline)) = some (.offline, 0, 0, false, true)
    ∧ (after (.availFall 1) (at_ 230 (onUnitRec 1 (run 4030 220 284) surge))).map
      (fun t => ((t.units.get 1).state, (t.queues.get 1).pumped)) = some (.offline, 40300) := by decide +kernel

/-- Section 3.16 at 214.6. -/
theorem test_atspeed_rise_proves_the_start :
    (after (.atspeedRise 1)
        (at_ 214 (onUnitRec 1 (fun u => { u with state := .starting, runReq := true, stateTimer := loadTimer 16 }) surge))).map
      (fun t => ((t.units.get 1).state, (t.units.get 1).creditMark, (t.units.get 1).runHold.left,
        (t.units.get 1).stateTimer.left)) = some (.running, 214, 300, 0) := by decide

/-- Section 3.16 at 251.8, and section 8.7 at 1,094.3. -/
theorem test_atspeed_falls :
    (after (.atspeedFall 1) (onUnitRec 1 (fun u => { u with state := .stopping, atSpeed := true }) surge)).map
      (fun t => ((t.units.get 1).state, (t.units.get 1).rest.left)) = some (.resting, 600)
    ∧ (after (.atspeedFall 2) (at_ 1094 (onUnitRec 2 (run 4023 1090 275) surge))).map
      (fun t => ((t.units.get 2).tripReason, (t.queues.get 2).unordered, t.disp.request))
      = some (some .lostRun, 16092, true) := by decide +kernel

/-- U4 of section 3.18 reaching B2 at 733.1 with rest remaining, and a selector that leaves a RESTING unit's bay (R61). -/
theorem test_selpos_changes :
    (after (.selposChange 4 2)
        (onUnitRec 4
          (fun u => { u with state := .switching, rest := loadTimer 107, stateTimer := loadTimer 87, selPos := 3, commandedBay := 2 })
          surge)).map
      (fun t => ((t.units.get 4).state, (t.units.get 4).rest.left, (t.units.get 4).stateTimer.left)) = some (.resting, 107, 0)
    ∧ (after (.selposChange 4 3) surge).map (fun t => (t.units.get 4).tripReason) = some (some .selector) := by decide

/-- Section 6.8 at 1,001.7. -/
theorem test_psel_change_restarts_the_filter :
    (after (.pselChange 0) (surge.setRiver { surge.river with pselSeen := 2, pselAge := 1, profile := 2 })).map
      (fun t => (t.river.pselSeen, t.river.pselAge, t.river.profile)) = some (0, 0, 2) := by decide

theorem test_svc_change : (after (.svcChange true) surge).map (fun t => (t.svc, t.disp.request)) = some (true, false) := by
  decide

/-! ### Well-formed operands -/

theorem test_wf_refuses_a_table_code_as_unknown : Instr.wf (.unknownCommand .river 0x66 0) = false := by decide

theorem test_wf_refuses_a_whole_frame_as_short : Instr.wf (.shortTransaction .river [1, 89]) = false := by decide

theorem test_ill_formed_operands_are_refused :
    exec (.unknownCommand .river 0x01 89) State.reset = .refused .illFormed
    ∧ exec (.shortTransaction .river [1, 89]) State.reset = .refused .illFormed := ⟨rfl, rfl⟩

/-- No word spells a command. -/
theorem test_no_word_spells_a_command : decodeTableWord 16 0x5901 = none := rfl

/-! ### States that meet the hypotheses of the statements -/

/-- `s`, its port in RECEIVING, takes the frame with a good check byte. -/
abbrev takes (p : PortId) (code : Byte) (args : List Byte) (s : State) : Prop :=
  (receiving p s).accepts ⟨p, code, args, chkOf code args⟩

theorem witness_StepTakesTheFrontCommand : State.reset.pending = [] := rfl

theorem witness_FrameOutsideReceiving :
    Instr.wf (.nop .river 89) = true ∧ Instr.frame? (.nop .river 89) = some ⟨.river, 0x01, [], 89⟩
    ∧ { State.reset with resetN := false }.resetN = false
    ∧ (State.reset.resetN = true ∧ (State.reset.ports.get .river).phase = .idle)
    ∧ (answering .river 65535 .none surge).resetN = true
    ∧ ((answering .river 65535 .none surge).ports.get .river).phase = .answering := by decide

/-- A bad check byte, and each refusal of R167 with a code at the edge of its class. -/
theorem witness_FramesAreJudgedInOrder :
    ((receiving .river surge).receives ⟨.river, 0x01, [], 88⟩ ∧ Frame.runningSum ⟨.river, 0x01, [], 88⟩ ≠ 90)
    ∧ (((receiving .river surge).ports.get .river).code = none ∧ ((receiving .river surge).ports.get .river).selN = false)
    ∧ Frame.runningSum ⟨.river, 0x02, [], chkOf 0x02 []⟩ = 90
    ∧ (receiving .river surge).portRefusal ⟨.river, 0x02, [], chkOf 0x02 []⟩ = some 0x11
    ∧ (receiving .river surge).portRefusal ⟨.river, 0x29, [], chkOf 0x29 []⟩ = some 0x12
    ∧ (receiving (.district 0) surge).portRefusal ⟨.district 0, 0x40, [0, 0], chkOf 0x40 [0, 0]⟩ = some 0x12
    ∧ (receiving (.district 0) service).portRefusal ⟨.district 0, 0x66, [], chkOf 0x66 []⟩ = some 0x12
    ∧ (receiving .river surge).portRefusal ⟨.river, 0x64, [], chkOf 0x64 []⟩ = some 0x13
    ∧ (receiving .river service.beginCommit).portRefusal ⟨.river, 0x66, [], chkOf 0x66 []⟩ = some 0x14 := by decide

theorem witness_ValidRiverFrameRestartsSilence :
    ((receiving .river surge).receives ⟨.river, 0x26, [], chkOf 0x26 []⟩
      ∧ Frame.runningSum ⟨.river, 0x26, [], chkOf 0x26 []⟩ = 90)
    ∧ (receiving .river State.reset).river.capStatus ≠ .live
    ∧ (receiving (.district 2) surge).receives ⟨.district 2, 0x26, [], chkOf 0x26 []⟩ := by decide

theorem witness_NopAndUnknownCommandAnswerAlone :
    takes .river 0x01 [] surge
    ∧ ((0x67 : Byte).toNat ∉ commandCodes ∧ (receiving .river surge).receives ⟨.river, 0x67, [], chkOf 0x67 []⟩
      ∧ Frame.runningSum ⟨.river, 0x67, [], chkOf 0x67 []⟩ = 90)
    ∧ (0x66 : Byte).toNat ∈ commandCodes := by decide

theorem witness_of_the_frames_without_arguments_on_any_port :
    takes .river 0x03 [] surge ∧ takes .river 0x05 [] surge ∧ takes .river 0x07 [] surge ∧ takes .river 0x09 [] surge
    ∧ takes (.district 2) 0x03 [] surge := by decide

theorem witness_EndOfReadNoticesClears :
    let s := answering .river 4 (.clearNotices 522) surge
    s.resetN = true ∧ (s.ports.get .river).selN = false ∧ (s.ports.get .river).phase = .answering
    ∧ (s.ports.get .river).endAction = .clearNotices 522 := by decide

theorem witness_SetNoticeMaskReplacesTheMask :
    takes .river 0x04 (field16 0xFFFF) surge ∧ takes (.district 0) 0x04 (field16 0) surge := by decide

/-- Kinds 3 and 4 lie on the two sides of the refusal. -/
theorem witness_SnapshotLatches :
    (takes .river 0x08 [0xFF, 4] surge ∧ 4 ≤ (4 : Byte).toNat) ∧ takes .river 0x08 [0xFF, 3] surge ∧ (3 : Byte).toNat < 4 := by
  decide

/-- The first entry went out in full, and the second lacks one byte. -/
theorem witness_EndOfReadSnapshotRemoves :
    let s := answering .river 4 (.removeSnapshots ([(4, false)] ++ [(4, true)])) surge
    let size (k : UnitId × Bool) : Nat := if k.2 then 11 else 9
    let out := min 65535 ((s.ports.get .river).position + 19) - (s.ports.get .river).frameLength - 2
    (s.resetN = true ∧ (s.ports.get .river).selN = false ∧ (s.ports.get .river).phase = .answering
      ∧ (s.ports.get .river).endAction = .removeSnapshots ([(4, false)] ++ [(4, true)]))
    ∧ (([((4 : UnitId), false)]).map size).sum ≤ out
    ∧ out < (([((4 : UnitId), false)]).map size).sum + size (4, true) := by decide

theorem witness_ReadUnitFields :
    (takes .river 0x06 [8] surge ∧ 7 < (8 : Byte).toNat) ∧ takes .river 0x06 [7] surge ∧ (7 : Byte).toNat = (7 : UnitId).val := by
  decide

theorem witness_ReadBayFields :
    (takes .river 0x0B [3] surge ∧ 2 < (3 : Byte).toNat) ∧ takes .river 0x0B [2] surge ∧ (2 : Byte).toNat = (2 : District).val := by
  decide

/-- The factory defaults as the writes that carry them. -/
def factoryCurveArgs : CurveArgs :=
  { cls := 3, heads := ⟨0, 2000, 4000, 6000, 8000, 10000⟩, flows := ⟨0, 0, 0, 0, 0, 0⟩, qMin := 0, power := 1 }

def factoryStationArgs : StationArgs := { sill := 0, fallbackCap := 0, budgets := ⟨0, 0, 0⟩, spacings := ⟨600, 600, 600⟩ }

theorem witness_ReadConfigReturnsTheRecord :
    (takes .river 0x65 [4, 0] State.reset ∧ 3 < (4 : Byte).toNat) ∧ takes .river 0x65 [0, 4] State.reset
    ∧ takes .river 0x65 [1, 8] State.reset ∧ takes .river 0x65 [2, 3] State.reset ∧ takes .river 0x65 [3, 255] State.reset
    ∧ (takes .river 0x65 [0, 3] State.reset ∧ State.reset.curves.get 3 = curveRecord factoryCurveArgs
      ∧ curveClamped factoryCurveArgs = false)
    ∧ (takes .river 0x65 [1, 7] State.reset ∧ unitRecord (unitArgs 7 0 0 7) = some (7, factoryUnit)
      ∧ (State.reset.units.get 7).cfg = factoryUnit ∧ unitClamped (unitArgs 7 0 0 7) factoryUnit = false)
    ∧ (takes .river 0x65 [2, 0] State.reset ∧ bayRecord (bayArgs (-1000) 0 0 1) = some (0, factoryBay)
      ∧ (State.reset.bays.get 0).cfg = factoryBay ∧ bayClamped (bayArgs (-1000) 0 0 1) factoryBay = false)
    ∧ State.reset.station = stationRecord factoryStationArgs ∧ stationClamped factoryStationArgs = false := by decide +kernel

/-- Class C1 at the three places of R28: at H0, at a breakpoint and at H5. -/
theorem witness_InterpolationRoundsUp :
    classC1.InRange ∧ 0 ≤ classC1.heads.a0 ∧ classC1.heads.a5 ≤ 10000
    ∧ classC1.heads.toList[2]? = some 4000 ∧ classC1.heads.toList[2 + 1]? = some 6000
    ∧ classC1.flows.toList[2]? = some 4600 ∧ classC1.flows.toList[2 + 1]? = some 3900 ∧ 4000 ≤ 5630 ∧ 5630 < 6000 := by
  refine ⟨?_, by decide⟩
  unfold CurveClass.InRange
  decide

theorem witness_ReportLevelTakesTheLevel :
    takes (.district 0) 0x20 (field16 (BitVec.ofInt 16 (-3601))) surge
    ∧ takes (.district 0) 0x20 (field16 (BitVec.ofInt 16 (-3500))) surge
    ∧ takes (.district 2) 0x20 (field16 (BitVec.ofInt 16 (-10000))) surge := by decide

/-- A volume of 999 and of 1,000 L, a list of 8 and of 7 orders, a tag in use. -/
theorem witness_PostOrderJoinsTheList :
    let full (n : Nat) : State :=
      onQueueRec 0 (fun q => { q with orders := ((List.range n).map fun k => order (BitVec.ofNat 8 (k + 1)) .routine 1000 .queued) }) surge
    let args (tag volume : Nat) : List Byte := [BitVec.ofNat 8 tag, 0] ++ field32 (BitVec.ofNat 32 volume) ++ field32 0
    (takes (.district 0) 0x21 (args 9 999) surge ∧ (999 : BitVec 32).toNat < 1000)
    ∧ (takes (.district 0) 0x21 (args 9 1000) (full 8) ∧ ¬(1000 : BitVec 32).toNat < 1000
      ∧ 8 ≤ ((full 8).queues.get 0).orders.length)
    ∧ (takes (.district 0) 0x21 (args 7 1000) (full 7) ∧ ((full 7).queues.get 0).orders.length < 8
      ∧ ∃ o ∈ ((full 7).queues.get 0).orders, o.tag = 7)
    ∧ takes (.district 0) 0x21 (args 9 1000) (full 7) ∧ ¬∃ o ∈ ((full 7).queues.get 0).orders, o.tag = 9 := by
  decide +kernel

/-- A list of three orders: the head, the middle and no order with the tag. -/
def threeOrders : State :=
  onQueueRec 1
    (fun q =>
      { q with
        gateOpen := true
        orders := [order 3 .routine 45820 .active, order 5 .routine 200000 .queued, order 9 .high 1000 .queued] })
    surge

theorem witness_CancelOrderFinishesTheOrder :
    takes (.district 1) 0x22 [0] threeOrders
    ∧ (takes (.district 1) 0x22 [4] threeOrders ∧ ∀ o ∈ (threeOrders.queues.get 1).orders, o.tag ≠ 4)
    ∧ takes (.district 1) 0x22 [5] threeOrders
    ∧ (threeOrders.queues.get 1).orders
        = [order 3 .routine 45820 .active] ++ order 5 .routine 200000 .queued :: [order 9 .high 1000 .queued]
    ∧ (order 5 .routine 200000 .queued).tag = 5 ∧ ((threeOrders.queues.get 1).orders.map Order.tag).Nodup := by decide

theorem witness_SetUrgencyReplacesTheUrgency :
    (takes (.district 1) 0x23 [5, 3] threeOrders ∧ 2 < (3 : Byte).toNat) ∧ takes (.district 1) 0x23 [0, 2] threeOrders
    ∧ (takes (.district 1) 0x23 [4, 2] threeOrders ∧ ∀ o ∈ (threeOrders.queues.get 1).orders, o.tag ≠ 4)
    ∧ takes (.district 1) 0x23 [3, 2] threeOrders
    ∧ (threeOrders.queues.get 1).orders
        = [] ++ order 3 .routine 45820 .active :: [order 5 .routine 200000 .queued, order 9 .high 1000 .queued]
    ∧ ((threeOrders.queues.get 1).orders.map Order.tag).Nodup := by decide

theorem witness_of_the_district_frames_without_arguments :
    takes (.district 1) 0x24 [] threeOrders ∧ takes (.district 1) 0x25 [] threeOrders ∧ takes (.district 1) 0x26 [] threeOrders
    ∧ takes (.district 1) 0x27 [3] threeOrders ∧ takes (.district 1) 0x29 [] threeOrders := by decide

theorem witness_EndOfReadCompletionsRemoves :
    let s := answering (.district 1) 2 (.removeCompletions 3) surge
    let out := min 65535 ((s.ports.get (.district 1)).position + 39) - (s.ports.get (.district 1)).frameLength
    (s.resetN = true ∧ (s.ports.get (.district 1)).selN = false ∧ (s.ports.get (.district 1)).phase = .answering
      ∧ (s.ports.get (.district 1)).endAction = .removeCompletions 3)
    ∧ 2 + 19 * 1 ≤ max out 2 ∧ max out 2 < 2 + 19 * (1 + 1) := by decide

theorem witness_AckFloatEndsLatchedDemand :
    let s (high demand : Bool) := onBayRec 0 (fun b => { b with floatInput := high, floatDemand := demand }) surge
    (∀ high demand, takes (.district 0) 0x28 [] (s high demand))
    ∧ (surge.bays.get 0).cfg.floatMode = .latched ∧ takes (.district 2) 0x28 [] surge
    ∧ (surge.bays.get 2).cfg.floatMode = .selfClearing := by decide

theorem witness_ClearTripReturnsTheUnit :
    takes .river 0x0A [8] surge ∧ (takes .river 0x0A [7] surge ∧ (surge.units.get 7).state ≠ .tripped)
    ∧ (takes .river 0x0A [5] (weldedU5 true) ∧ ((weldedU5 true).units.get 5).state = .tripped
      ∧ ((weldedU5 true).units.get 5).atSpeed = true)
    ∧ (takes .river 0x0A [5] (weldedU5 false) ∧ ((weldedU5 false).units.get 5).state = .tripped
      ∧ ((weldedU5 false).units.get 5).atSpeed = false ∧ ((weldedU5 false).units.get 5).selPos.val = (0 : District).val
      ∧ ((weldedU5 false).units.get 5).avail = true ∧ ((weldedU5 false).units.get 5).cfg.enable = true)
    ∧ ((onUnitRec 5 (fun u => { u with avail := false }) (weldedU5 false)).units.get 5).avail = false := by decide

theorem witness_SetCapAndReportStage :
    takes .river 0x40 (field16 60000) surge ∧ takes .river 0x40 (field16 60001) surge
    ∧ takes .river 0x41 (field16 (BitVec.ofInt 16 (-5001))) surge := by decide

theorem witness_of_the_closure_commands :
    let s (c : Option ClosureOrigin) := surge.setRiver { surge.river with closure := c }
    (∀ c ∈ [none, some ClosureOrigin.reset, some .commanded], takes .river 0x42 [] (s c) ∧ takes .river 0x43 [] (s c)) := by
  decide

/-- The largest class out of range, a record out of shape and one in shape. -/
theorem witness_WriteCurveReplacesTheRecord :
    takes .river 0x60 { argsC3 200 7500 with cls := 4 }.bytes service ∧ takes .river 0x60 (argsC3 1200 7500).bytes service
    ∧ takes .river 0x60 (argsC3 1100 7500).bytes service ∧ (argsC3 1100 7500).cls.toNat = (3 : ClassId).val
    ∧ ¬1200 ≤ (1100 : Nat) := by decide +kernel

/-- A sound unit of the example station in each state the write tells apart. -/
def soundUnit (st : UnitState) : UnitRec :=
  { exampleUnit 1 ⟨true, true, false⟩ 0 with
    state := st, runReq := st.wantsRun, tripReason := if st = .tripped then some .lostRun else none }

theorem soundUnit_sound (st : UnitState) : (soundUnit st).Sound true := by
  cases st <;> constructor <;> decide

theorem witness_WriteUnitConfigHandsOver :
    (∀ st ∈ [UnitState.resting, .switching, .starting, .running, .stopping, .tripped, .idle, .offline],
      takes .river 0x61 (unitArgs 0 1 1 3).bytes (onUnitRec 0 (fun _ => soundUnit st) service)
      ∧ takes .river 0x61 (unitArgs 0 0 1 3).bytes (onUnitRec 0 (fun _ => soundUnit st) service))
    ∧ takes .river 0x61 (unitArgs 8 1 1 3).bytes service ∧ takes .river 0x61 (unitArgs 0 2 1 3).bytes service
    ∧ takes .river 0x61 (unitArgs 0 1 4 3).bytes service ∧ takes .river 0x61 (unitArgs 0 1 1 0xF8).bytes service
    ∧ (soundUnit .offline).avail = true ∧ (soundUnit .offline).atSpeed = false
    ∧ { soundUnit .offline with selPos := 3 }.selPos = 3 := by decide +kernel

/-- A float level one below and at floor + 100. -/
theorem witness_WriteBayConfigTakesEffect :
    takes .river 0x62 (bayArgs (-3600) (-3501) 0 5).bytes service ∧ takes .river 0x62 (bayArgs (-3600) (-3500) 0 5).bytes service
    ∧ (bayArgs (-3600) (-3500) 0 5).bay.toNat = (0 : District).val
    ∧ ¬max (-9999) (min 9999 (bayArgs (-3600) (-3500) 0 5).floatLevel.toInt)
        < max (-9999) (min 9999 (bayArgs (-3600) (-3500) 0 5).floor.toInt) + 100 := by decide +kernel

theorem witness_of_the_station_writes :
    takes .river 0x63 factoryStationArgs.bytes service ∧ takes .river 0x64 [] service ∧ takes .river 0x66 [] service := by
  decide +kernel

theorem witness_CommitStoresTheWorkingConfiguration :
    let c : Commit := { copy := factoryConfig, marksLeft := 1, due := true }
    let s := service.setStore { service.store with commit := some c }
    s.resetN = true ∧ s.store.commit = some c ∧ c.due = true := by decide

theorem witness_StationResetAtTheRise :
    let s := answering .river 2 .stationReset service
    s.resetN = true ∧ (s.ports.get .river).selN = false ∧ (s.ports.get .river).phase = .answering
    ∧ (s.ports.get .river).endAction = .stationReset := by decide

theorem witness_ResetLoadsAndResetsTheBlocks :
    State.reset.resetN = true ∧ { State.reset with resetN := false }.resetN = false := by decide

/-- One port in each situation the edges tell apart. -/
theorem witness_SelectEdges :
    (State.reset.resetN = true ∧ (State.reset.ports.get .river).selN = true)
    ∧ ({ State.reset with resetN := false }.resetN = false)
    ∧ (isShort [32, 246, 80] = true ∧ ((receiving .river surge).ports.get .river).selN = false
      ∧ ((receiving .river surge).ports.get .river).phase = .receiving)
    ∧ isShort [32, 246, 80, 244] = false
    ∧ (((answering .river 2 .none surge).ports.get .river).phase = .answering
      ∧ ((answering .river 2 .none surge).ports.get .river).endAction = .none
      ∧ 2 ≤ ((answering .river 2 .none surge).ports.get .river).frameLength)
    ∧ (((surge.setPort .river (resetPort false)).ports.get .river).selN = false
      ∧ ((surge.setPort .river (resetPort false)).ports.get .river).phase = .idle)
    ∧ Instr.riseOf (.endOfTransaction .river 0) = some (.river, .answering)
    ∧ Instr.wf (.endOfTransaction .river 0) = true := by decide

theorem witness_SecondMarkCounts : surge.resetN = true ∧ surge.Settled := by
  refine ⟨rfl, by decide, by decide, by decide, ?_, ?_, ?_, rfl⟩
  · intro i t ts h
    have : ∀ j, (surge.units.get j).history = [] := by decide
    simp [this] at h
  · intro d o h
    have : ∀ e, (surge.queues.get e).orders = [] := by decide
    simp [this] at h
  · intro c h
    cases h

/-- The age before 60, before 300 and away from both; and no report. -/
theorem witness_FreshnessFallsAtItsMark :
    let s (age : Nat) := onBayRec 0 (fun b => { b with age := age, ageDue := true }) surge
    (∀ age ∈ [0, 59, 299, 65535], (s age).resetN = true ∧ ((s age).bays.get 0).ageDue = true
      ∧ ((s age).bays.get 0).reported = some (-2900))
    ∧ min 65535 (59 + 1) = 60 ∧ min 65535 (299 + 1) = 300 ∧ (surge.bays.get 2).reported = none
    ∧ { surge.river with stageDue := true }.stageDue = true := by decide

theorem witness_SilenceIsJudgedAtItsMark :
    let s (n : Nat) := surge.setRiver { surge.river with silence := n, silenceDue := true }
    (∀ n ∈ [0, 119, 719], (s n).resetN = true ∧ (s n).river.silenceDue = true ∧ (s n).river.capStatus = .live)
    ∧ min 65535 (119 + 1) = 120 ∧ min 65535 (719 + 1) = 720 ∧ min 65535 (0 + 1) ≠ 120 ∧ min 65535 (0 + 1) ≠ 720 := by decide

theorem witness_PselFilterAndSvc :
    let s (code : Fin 4) (age : Nat) :=
      surge.setRiver { surge.river with pselSeen := code, pselAge := age, profileDue := true }
    ((s 2 1).resetN = true ∧ (s 2 1).river.profileDue = true ∧ (s 2 1).river.pselSeen ≠ (s 2 1).river.profile)
    ∧ (s 2 0).river.pselAge = 0 ∧ (s 0 0).river.pselSeen = (s 0 0).river.profile ∧ (3 : Fin 4) ≠ surge.river.pselSeen := by
  decide

theorem witness_HoldRestAndHistoryEnd :
    let s (st : UnitState) (p : Option UnitConfig) := onUnitRec 1
      (fun u =>
        { u with
          state := st, runHold := { left := 1, due := true }, rest := { left := 1, due := true }, pendingCfg := p
          history := [200] })
      (at_ 3800 surge)
    ((s .running none).resetN = true ∧ ((s .running none).units.get 1).runHold.due = true)
    ∧ (((s .switching none).units.get 1).rest.due = true ∧ ((s .switching none).units.get 1).state ≠ .resting)
    ∧ (((s .resting none).units.get 1).state = .resting ∧ ((s .resting none).units.get 1).pendingCfg = none)
    ∧ (((s .resting (some factoryUnit)).units.get 1).pendingCfg = some factoryUnit ∧ factoryUnit.enable = false)
    ∧ ((s .idle none).units.get 1).history = 200 :: [] ∧ 3600 ≤ ((s .idle none).clock - 200).toNat := by decide

/-- The state of section 5.12 at 115. -/
theorem witness_DeadlineExpiryCuts :
    let s := at_ 115 (onQueueRec 1
      (fun q => { q with orders := [{ order 14 .routine 500000 .active with postedAt := 55, deadline := some 60 }] }) surge)
    s.resetN = true ∧ (s.queues.get 1).completions.length ≤ 8
    ∧ (s.queues.get 1).orders.filter
        (fun o => decide (o.deadline.map (fun n => o.postedAt + BitVec.ofNat 32 n) = some s.clock)) ≠ [] := by decide

/-- A sound queue of two orders. -/
theorem witness_of_the_credits : (threeOrders.queues.get 1).Sound false := by
  refine ⟨by decide, by decide, by decide, ?_, ?_, by decide, by decide, by decide, by decide⟩
  · intro o ho n hn
    have : ∀ x ∈ (threeOrders.queues.get 1).orders, x.deadline = none := by decide
    simp [this o ho] at hn
  · exact ⟨rfl, by decide⟩

theorem witness_of_the_evaluation : flood.resetN = true ∧ flood.disp.evalDue = true := by decide

theorem witness_FloatLineMovesDemand :
    (surge.resetN = true ∧ (surge.bays.get 2).floatInput = false)
    ∧ ((onBayRec 2 (fun b => { b with floatInput := true, floatDemand := true }) surge).bays.get 2).floatInput = true
    ∧ { surge with resetN := false }.resetN = false := by decide

/-- Each of the trips: the timeouts, the motors, the selector, the departure test and the end of a stop. -/
theorem witness_TripsOfExpiriesAndLinesDoTheSame :
    (((expiring .starting false).units.get 5).state = .starting ∧ ((expiring .starting false).units.get 5).stateTimer.due = true)
    ∧ (((expiring .stopping true).units.get 5).state = .stopping ∧ ((expiring .stopping true).units.get 5).atSpeed = true)
    ∧ ((expiring .switching false).units.get 5).state = .switching
    ∧ (((onUnitRec 1 (run 4030 0 100) surge).units.get 1).state = .running
      ∧ ((onUnitRec 1 (run 4030 0 100) surge).units.get 1).atSpeed = true)
    ∧ ((surge.units.get 1).state = .idle ∧ (surge.units.get 1).atSpeed = false)
    ∧ (3 : Fin 4) ≠ (surge.units.get 1).selPos ∧ (3 : Fin 4).val ≠ (surge.units.get 1).commandedBay.val
    ∧ (let u (avail fast : Bool) (pos : Fin 4) : UnitRec :=
         { surge.units.get 4 with state := .offline, avail := avail, atSpeed := fast, selPos := pos }
       (u false false 3).avail = false ∧ (u true true 3).atSpeed = true ∧ (3 : Fin 4) ≠ (u true false 2).selPos
       ∧ (u true false 3).cfg.enable = true)
    ∧ (let u : UnitRec := { (expiring .stopping true).units.get 5 with selPos := 3 }
       u.stateTimer.due = true ∧ u.avail = true ∧ u.cfg.enable = true ∧ u.selPos.val ≠ u.commandedBay.val)
    ∧ surge.resetN = true := by decide

theorem witness_StopEndsByTheLines :
    let s (avail : Bool) (pos : Fin 4) (p : Option UnitConfig) :=
      onUnitRec 5 (fun u => { u with avail := avail, selPos := pos, pendingCfg := p }) (expiring .stopping true)
    (((s true 0 none).units.get 5).state = .stopping ∧ ((s true 0 none).units.get 5).atSpeed = true
      ∧ ((s true 0 none).units.get 5).avail = true ∧ ((s true 0 none).units.get 5).cfg.enable = true
      ∧ ((s true 0 none).units.get 5).selPos.val = ((s true 0 none).units.get 5).commandedBay.val)
    ∧ ((s true 3 none).units.get 5).selPos.val ≠ ((s true 3 none).units.get 5).commandedBay.val
    ∧ (((s false 0 none).units.get 5).avail = false ∧ ((s false 0 none).units.get 5).pendingCfg = none)
    ∧ (({ (s true 0 (some { factoryUnit with enable := true })).units.get 5 with cfg := factoryUnit }).cfg.enable = false
      ∧ ({ factoryUnit with enable := true } : UnitConfig).enable = true)
    ∧ ((expiring .stopping false).units.get 5).atSpeed = false := by decide

theorem witness_DepartureTestLeavesOffline :
    let s (avail fast : Bool) (pos : Fin 4) :=
      onUnitRec 4 (fun u => { u with state := .offline, avail := avail, atSpeed := fast, selPos := pos }) surge
    (((s false false 2).units.get 4).state = .offline ∧ ((s false false 2).units.get 4).avail = false)
    ∧ (((s true true 3).units.get 4).atSpeed = true ∧ ((s true true 3).units.get 4).avail = true
      ∧ ((s true true 3).units.get 4).cfg.enable = true ∧ ((s true true 3).units.get 4).selPos = 3)
    ∧ ((s false true 0).units.get 4).selPos ≠ 2 := by decide

theorem witness_AvailFallTakesOutOfService :
    surge.resetN = true ∧ (surge.units.get 4).avail = true ∧ (surge.units.get 4).state ≠ .offline
    ∧ (surge.units.get 4).state ≠ .stopping ∧ (surge.units.get 4).state ≠ .tripped := by decide

theorem witness_StartAndSwitchComplete :
    let u (rest : Nat) (p : Option UnitConfig) : UnitRec :=
      { surge.units.get 4 with
        state := .switching, rest := loadTimer rest, selPos := 3, commandedBay := 2, pendingCfg := p }
    (((expiring .starting false).units.get 5).state = .starting ∧ ((expiring .starting false).units.get 5).atSpeed = false)
    ∧ ((u 107 none).state = .switching ∧ (u 107 none).selPos ≠ 2 ∧ (2 : Fin 4).val = (u 107 none).commandedBay.val
      ∧ (u 107 none).rest.left ≠ 0)
    ∧ (u 0 none).rest.left = 0
    ∧ ((u 0 (some factoryUnit)).pendingCfg = some factoryUnit ∧ factoryUnit.enable = false) := by decide

theorem witness_OtherLineChangesMoveTheLine :
    let s (st : UnitState) := onUnitRec 1 (fun u => { u with state := st, selPos := 3 }) surge
    ((s .tripped).resetN = true ∧ ((s .tripped).units.get 1).avail = true ∧ ((s .tripped).units.get 1).state = .tripped
      ∧ ((s .tripped).units.get 1).atSpeed = false ∧ ((s .tripped).units.get 1).selPos ≠ 1)
    ∧ (((s .switching).units.get 1).state = .switching ∧ (0 : Fin 4).val ≠ ((s .switching).units.get 1).commandedBay.val)
    ∧ ((s .idle).units.get 1).state ≠ .offline ∧ (1 : Fin 4).val = ((s .idle).units.get 1).commandedBay.val
    ∧ ((expiring .stopping true).units.get 5).state ≠ .starting := by decide

/-- The part after reset with one command waiting. -/
def waiting : State := { State.reset with pending := [.svcChange true] }

theorem waiting_units : waiting.UnitsSound := by
  have : ∀ i, waiting.units.get i = State.reset.units.a0 := by decide
  intro i
  rw [this i]
  constructor <;> decide

theorem waiting_config : waiting.ConfigSound := by
  refine ⟨?_, ?_, ?_, ?_⟩
  · unfold WorkingConfig.InRange CurveClass.InRange UnitConfig.InRange BayConfig.InRange StationConfig.InRange
    decide +kernel
  · intro i c h
    have : ∀ j, (waiting.units.get j).pendingCfg = none := by decide
    simp [this i] at h
  · intro c h
    cases h
  · intro w h
    cases h

theorem waiting_queues : waiting.QueuesSound := by
  have : ∀ d, waiting.queues.get d = resetQueue := by decide
  intro d
  rw [this d]
  constructor <;> simp [resetQueue, ordersServed]

theorem waiting_water : waiting.WaterSound := by
  intro _
  refine ⟨?_, by constructor <;> decide⟩
  have : ∀ d, waiting.bays.get d = State.reset.bays.a0 := by decide
  intro d
  rw [this d]
  constructor <;> decide

theorem waiting_attention : waiting.AttentionSound := by
  have : ∀ p, waiting.notices.get p = resetNoticePort := by
    intro p
    cases p with
    | river => rfl
    | district d => revert d; decide
  intro p
  rw [this p]
  simp only [NoticePort.attnSound]
  decide

theorem witness_EveryStepKeepsTheInvariant :
    waiting.Inv ∧ step waiting = .next { waiting with pending := [], svc := true } := by
  refine ⟨⟨waiting_attention, waiting_units, ?_, waiting_queues, waiting_water, waiting_config, ?_⟩, rfl⟩
  · unfold State.ClosureHolds
    decide
  · constructor <;> decide

end Sys2Proof.Tests
end

section
/-! PROOFS of chapter 2: the flow of a curve class at a head (R28, R29), settling O19.

A quotient rounded down is subtracted from Qi, so the flow is the straight-line value rounded up; `segmentFlow` holds that
arithmetic, and `CurveClass.flowAt` is tied to it segment by segment. -/

namespace Sys2Proof.Machine

/-! ### One segment -/

section Segment
variable {hi hj qi qj h : Nat}

/-- At its left breakpoint a segment has the flow stored there, so neighbouring segments agree (R28). -/
@[simp] theorem segmentFlow_left : segmentFlow hi hj qi qj hi = qi := by simp [segmentFlow]

/-- What R29 subtracts is at most the fall of the segment. -/
theorem segment_quotient_le (hh : h < hj) : (qi - qj) * (h - hi) / (hj - hi) ≤ qi - qj :=
  Nat.div_le_of_le_mul <| by
    rw [Nat.mul_comm (hj - hi)]
    exact Nat.mul_le_mul_left _ (by omega)

theorem segmentFlow_le : segmentFlow hi hj qi qj h ≤ qi := Nat.sub_le _ _

theorem le_segmentFlow (hq : qj ≤ qi) (hh : h < hj) : qj ≤ segmentFlow hi hj qi qj h := by
  have hfall := segment_quotient_le (hi := hi) (qi := qi) (qj := qj) hh
  unfold segmentFlow
  omega

/-- The flow and the quotient subtracted make up Qi: nothing is cut off at 0. -/
theorem segmentFlow_add_quotient (hh : h < hj) :
    segmentFlow hi hj qi qj h + (qi - qj) * (h - hi) / (hj - hi) = qi :=
  Nat.sub_add_cancel (Nat.le_trans (segment_quotient_le hh) (Nat.sub_le _ _))

/-- Rounded up by less than one (R29): both sides are multiplied by the width of the segment. -/
theorem segmentFlow_roundsUp (hw : hi < hj) (hh : h < hj) :
    qi * (hj - hi) ≤ segmentFlow hi hj qi qj h * (hj - hi) + (qi - qj) * (h - hi)
    ∧ segmentFlow hi hj qi qj h * (hj - hi) + (qi - qj) * (h - hi) < (qi + 1) * (hj - hi) := by
  have hsum := segmentFlow_add_quotient (hi := hi) (qi := qi) (qj := qj) hh
  have hmod := Nat.div_add_mod' ((qi - qj) * (h - hi)) (hj - hi)
  have hlt := Nat.mod_lt ((qi - qj) * (h - hi)) (show hj - hi > 0 by omega)
  have hmul := congrArg (· * (hj - hi)) hsum
  simp only [Nat.add_mul] at hmul ⊢
  omega

end Segment

/-! ### The curve of a class -/

section Curve
variable {c : CurveClass} {h : Nat}

theorem CurveClass.InRange.heads_ascend (hc : c.InRange) :
    c.heads.a0 < c.heads.a1 ∧ c.heads.a1 < c.heads.a2 ∧ c.heads.a2 < c.heads.a3 ∧ c.heads.a3 < c.heads.a4
    ∧ c.heads.a4 < c.heads.a5 := by
  obtain ⟨-, hasc, -⟩ := hc
  simp only [Six.toList, List.pairwise_cons, List.forall_mem_cons] at hasc
  omega

theorem CurveClass.InRange.flows_descend (hc : c.InRange) :
    c.flows.a1 ≤ c.flows.a0 ∧ c.flows.a2 ≤ c.flows.a1 ∧ c.flows.a3 ≤ c.flows.a2 ∧ c.flows.a4 ≤ c.flows.a3
    ∧ c.flows.a5 ≤ c.flows.a4 := by
  obtain ⟨-, -, -, hdesc, -⟩ := hc
  simp only [Six.toList, List.pairwise_cons, List.forall_mem_cons] at hdesc
  omega

/-- At or below H0 the flow is Q0 (R28). -/
theorem CurveClass.flowAt_low (hh : h ≤ c.heads.a0) : c.flowAt h = c.flows.a0 := if_pos hh

/-- At or above H5 the flow is Q5 (R28). -/
theorem CurveClass.flowAt_high (hc : c.InRange) (hh : c.heads.a5 ≤ h) : c.flowAt h = c.flows.a5 := by
  have hasc := hc.heads_ascend
  rw [flowAt, if_neg, if_pos] <;> omega

/-- Every flow of the curve is within the range of the stored flows (R24, R29). -/
theorem CurveClass.flowAt_le_12000 (hc : c.InRange) : c.flowAt h ≤ 12000 := by
  obtain ⟨-, -, hle, -⟩ := hc
  simp only [Six.toList, List.forall_mem_cons] at hle
  obtain ⟨h0, h1, h2, h3, h4, h5, -⟩ := hle
  unfold CurveClass.flowAt
  split
  · exact h0
  split
  · exact h5
  split
  · exact Nat.le_trans segmentFlow_le h0
  split
  · exact Nat.le_trans segmentFlow_le h1
  split
  · exact Nat.le_trans segmentFlow_le h2
  split
  · exact Nat.le_trans segmentFlow_le h3
  · exact Nat.le_trans segmentFlow_le h4

/-- Segment `i` of the curve runs from the point (`hi`, `qi`) to the point (`hj`, `qj`). -/
structure CurveClass.HasSegment (c : CurveClass) (i hi hj qi qj : Nat) : Prop where
  headLeft : c.heads.toList[i]? = some hi
  headRight : c.heads.toList[i + 1]? = some hj
  flowLeft : c.flows.toList[i]? = some qi
  flowRight : c.flows.toList[i + 1]? = some qj

variable {i hi hj qi qj : Nat}

/-- A segment is one of the five between neighbouring points. -/
theorem CurveClass.HasSegment.cases (hseg : c.HasSegment i hi hj qi qj) :
    (hi = c.heads.a0 ∧ hj = c.heads.a1 ∧ qi = c.flows.a0 ∧ qj = c.flows.a1)
    ∨ (hi = c.heads.a1 ∧ hj = c.heads.a2 ∧ qi = c.flows.a1 ∧ qj = c.flows.a2)
    ∨ (hi = c.heads.a2 ∧ hj = c.heads.a3 ∧ qi = c.flows.a2 ∧ qj = c.flows.a3)
    ∨ (hi = c.heads.a3 ∧ hj = c.heads.a4 ∧ qi = c.flows.a3 ∧ qj = c.flows.a4)
    ∨ (hi = c.heads.a4 ∧ hj = c.heads.a5 ∧ qi = c.flows.a4 ∧ qj = c.flows.a5) := by
  obtain ⟨hhi, hhj, hqi, hqj⟩ := hseg
  match i with
  | 0 | 1 | 2 | 3 | 4 => cases hhi; cases hhj; cases hqi; cases hqj; simp
  | n + 5 => cases hhj

/-- A segment has a width: the divisor of R29 is positive. -/
theorem CurveClass.HasSegment.head_lt (hc : c.InRange) (hseg : c.HasSegment i hi hj qi qj) : hi < hj := by
  have hasc := hc.heads_ascend
  obtain h | h | h | h | h := hseg.cases <;> omega

/-- The flow does not rise along a segment: the first factor of R29 is not cut off at 0. -/
theorem CurveClass.HasSegment.flow_le (hc : c.InRange) (hseg : c.HasSegment i hi hj qi qj) : qj ≤ qi := by
  have hdesc := hc.flows_descend
  obtain h | h | h | h | h := hseg.cases <;> omega

/-- On a segment the flow is the value of R29 there; at H0, where R28 takes Q0, the two agree. -/
theorem CurveClass.HasSegment.flowAt_eq (hc : c.InRange) (hseg : c.HasSegment i hi hj qi qj) (hlow : hi ≤ h)
    (hhigh : h < hj) : c.flowAt h = segmentFlow hi hj qi qj h := by
  have hasc := hc.heads_ascend
  obtain ⟨rfl, rfl, rfl, rfl⟩ | ⟨rfl, rfl, rfl, rfl⟩ | ⟨rfl, rfl, rfl, rfl⟩ | ⟨rfl, rfl, rfl, rfl⟩
    | ⟨rfl, rfl, rfl, rfl⟩ := hseg.cases
  · obtain rfl | habove := Nat.eq_or_lt_of_le hlow
    · rw [flowAt_low (Nat.le_refl _), segmentFlow_left]
    · rw [flowAt, if_neg, if_neg, if_pos] <;> omega
  · rw [flowAt, if_neg, if_neg, if_neg, if_pos] <;> omega
  · rw [flowAt, if_neg, if_neg, if_neg, if_neg, if_pos] <;> omega
  · rw [flowAt, if_neg, if_neg, if_neg, if_neg, if_neg, if_pos] <;> omega
  · rw [flowAt, if_neg, if_neg, if_neg, if_neg, if_neg, if_neg] <;> omega

end Curve

/-- Settles O19. The ends of the curve are the first two lines of R28's table, the rest is `segmentFlow`'s arithmetic at the
segment that holds the head. -/
theorem interpolationRoundsUp : Obligations.InterpolationRoundsUp := by
  intro c h hc _
  refine ⟨CurveClass.flowAt_low, CurveClass.flowAt_high hc, CurveClass.flowAt_le_12000 hc, ?_⟩
  intro i _ hi hj qi qj hhi hhj hqi hqj hlow hhigh
  have hseg : c.HasSegment i hi hj qi qj := ⟨hhi, hhj, hqi, hqj⟩
  rw [hseg.flowAt_eq hc hlow hhigh]
  exact ⟨rfl, le_segmentFlow (hseg.flow_le hc) hhigh, segmentFlow_le, segmentFlow_roundsUp (hseg.head_lt hc) hhigh⟩

end Sys2Proof.Machine
end

section
/-! PROOFS of chapter 5: POST ORDER (R91, R92), settling O21, and the commands of the gate and of the unordered volume (R101,
R102, R108), settling O24.

A district command taken is its own reply delivered on the district's port; `OrderQueue.takePost` then gets one equation per
check of R91, and `OrderQueue.post` one equation that holds the order record of R92. -/

namespace Sys2Proof.Machine

/-! ### The answer of a district command -/

@[simp] theorem byte1_eq (n : Nat) : byte1 n = [BitVec.ofNat 8 n] := by simp [byte1, beBytes]

/-- A field carries its low bytes: what stands above them does not show. -/
theorem beBytes_mod {n m : Nat} (h : n ≤ m) (v : Nat) : beBytes n (v % 256 ^ m) = beBytes n v := by
  induction n with
  | zero => rfl
  | succ n ih =>
    have hpow : 256 ^ m = 256 ^ n * 256 ^ (m - n) := by rw [← Nat.pow_add]; congr 1; omega
    have hdvd : 2 ^ 8 ∣ 256 ^ (m - n) := Nat.pow_dvd_pow 256 (show 1 ≤ m - n by omega)
    have hhead : BitVec.ofNat 8 (v % 256 ^ m / 256 ^ n) = BitVec.ofNat 8 (v / 256 ^ n) := by
      refine BitVec.eq_of_toNat_eq ?_
      rw [hpow, Nat.mod_mul_right_div_self, BitVec.toNat_ofNat, BitVec.toNat_ofNat, Nat.mod_mod_of_dvd _ hdvd]
    rw [beBytes, beBytes, hhead, ih (by omega)]

theorem field32_ofNat (v : Nat) : field32 (BitVec.ofNat 32 v) = beBytes 4 v := by
  rw [field32, BitVec.toNat_ofNat]
  exact beBytes_mod (Nat.le_refl 4) v

/-- A district command taken: its own reply for the district of the port is the answer (R168). -/
theorem State.takeFrame_onDistrict {s : State} {d : District} {code chk : Byte} {args : List Byte}
    (own : State → District → Reply) (h : s.accepts ⟨.district d, code, args, chk⟩) :
    s.takeFrame ⟨.district d, code, args, chk⟩ (fun t => onDistrict (.district d) t (own t)) =
      .next ((own s d).state.answer ⟨.district d, code, args, chk⟩ (own s d).response (own s d).action) := by
  rw [State.takeFrame_accepts _ h]
  exact congrArg _ (Reply.deliver_eq ..)

/-! ### The gate and the unordered volume (R101, R102, R108) -/

/-- Settles O24: each of the three commands replaces one field of the district's queue. -/
theorem gateAndUnorderedCommands : Obligations.GateAndUnorderedCommands := by
  intro d chk s
  refine ⟨fun h => ?_, fun h => ?_, fun h => ?_⟩
  · refine (State.takeFrame_onDistrict _ h).trans ?_
    cases horders : (s.queues.get d).orders <;> simp [horders, State.setQueue, Result.byte, boolCode]
  · exact State.takeFrame_onDistrict _ h
  · refine (State.takeFrame_onDistrict _ h).trans ?_
    rw [field32_ofNat]
    rfl

/-! ### The operands of POST ORDER (R88, R91) -/

theorem urgencyOf_eq_none {code : Byte} (h : 2 < code.toNat) : urgencyOf code = none := by
  unfold urgencyOf
  split
  case h_4 => rfl
  all_goals omega

theorem urgencyOf_eq_some {code : Byte} (h : code.toNat ≤ 2) :
    urgencyOf code = some (if code.toNat = 0 then .routine else if code.toNat = 1 then .high else .emergency) := by
  unfold urgencyOf
  split
  case h_1 h0 => simp [h0]
  case h_2 h1 => simp [h1]
  case h_3 h2 => simp [h2]
  case h_4 h0 h1 h2 =>
    have hcase : code.toNat = 0 ∨ code.toNat = 1 ∨ code.toNat = 2 := by omega
    exact absurd hcase (by simpa using ⟨h0, h1, h2⟩)

/-- CLAMPED is answered where the volume was above its range, or a deadline other than none out of its range (R2, R91). -/
theorem postClamped_iff (volume deadline : BitVec 32) :
    postClamped volume deadline = true ↔
      2000000000 < volume.toNat ∨ (deadline ≠ 0 ∧ max 60 (min 604800 deadline.toNat) ≠ deadline.toNat) := by
  have hvolume : volumeOf volume ≠ volume.toNat ↔ 2000000000 < volume.toNat := by unfold volumeOf; omega
  have hdeadline : (deadlineOf deadline).getD 0 ≠ deadline.toNat ↔
      deadline ≠ 0 ∧ max 60 (min 604800 deadline.toNat) ≠ deadline.toNat := by
    unfold deadlineOf
    by_cases h0 : deadline = 0
    · simp [h0]
    · rw [if_neg h0]
      exact (and_iff_right h0).symm
  rw [postClamped, Bool.or_eq_true, bne_iff_ne, bne_iff_ne, hvolume, hdeadline]

theorem okOrClamped_byte (b : Bool) : (okOrClamped b).byte = if b then 0x01 else 0x00 := by cases b <;> rfl

/-! ### The list (R91, R92) -/

/-- The head of a list is served unless closure is in force (R90). -/
theorem headState_closed (s : State) :
    headState s.closed = if s.river.closure = none then .active else .suspended := by
  unfold headState State.closed
  cases s.river.closure <;> rfl

section Post
variable {q : OrderQueue} {closed : Bool} {now : Second} {tag urgency : Byte} {volume deadline : BitVec 32}

theorem OrderQueue.hasTag_iff : q.hasTag tag = true ↔ ∃ o ∈ q.orders, o.tag = tag := by simp [OrderQueue.hasTag]

/-- A posted order stands at the tail; only where it is the head too does closure show in its state (R90, R92). -/
theorem OrderQueue.post_eq (o : Order) :
    q.post closed o =
      { q with orders := q.orders ++ [{ o with state := if q.orders ≠ [] then .queued else headState closed }] } := by
  unfold OrderQueue.post
  split
  case h_1 hnil => simp [hnil, settleHead]
  case h_2 hcons => simp [hcons]

/-- A POST ORDER whose own values R91 refuses: tag 0, an urgency above 2, a volume below 1,000 L. -/
def PostIsBad (tag urgency : Byte) (volume : BitVec 32) : Prop :=
  tag = 0 ∨ 2 < urgency.toNat ∨ volume.toNat < 1000

theorem OrderQueue.takePost_bad (hbad : PostIsBad tag urgency volume) :
    q.takePost closed now tag urgency volume deadline = (q, .badValue) := by
  unfold OrderQueue.takePost
  split
  case h_1 => rfl
  case h_2 u hu =>
    have hle : urgency.toNat ≤ 2 := Nat.not_lt.1 fun hgt => by
      rw [urgencyOf_eq_none hgt] at hu
      cases hu
    have hvalue : tag = 0 ∨ volume.toNat < 1000 := hbad.imp_right fun h => h.resolve_left (by omega)
    rw [if_pos (by simpa using hvalue)]

/-- Past the first check of R91 two remain, the full list before the tag in use. -/
theorem OrderQueue.takePost_good (hgood : ¬PostIsBad tag urgency volume) :
    q.takePost closed now tag urgency volume deadline =
      if 8 ≤ q.orders.length then (q, .queueFull)
      else if q.hasTag tag then (q, .tagInUse)
      else
        (q.post closed (newOrder tag
            (if urgency.toNat = 0 then .routine else if urgency.toNat = 1 then .high else .emergency) volume deadline now),
          okOrClamped (postClamped volume deadline)) := by
  simp only [PostIsBad, not_or, Nat.not_lt] at hgood
  obtain ⟨htag, hurgency, hvolume⟩ := hgood
  have hvalues : ¬(decide (tag = 0) || decide (volume.toNat < 1000)) = true := by
    simpa using And.intro htag hvolume
  rw [OrderQueue.takePost, urgencyOf_eq_some hurgency]
  exact if_neg hvalues

theorem OrderQueue.takePost_full (hgood : ¬PostIsBad tag urgency volume) (hfull : 8 ≤ q.orders.length) :
    q.takePost closed now tag urgency volume deadline = (q, .queueFull) := by
  rw [takePost_good hgood, if_pos hfull]

theorem OrderQueue.takePost_used (hgood : ¬PostIsBad tag urgency volume) (hroom : q.orders.length < 8)
    (hused : ∃ o ∈ q.orders, o.tag = tag) : q.takePost closed now tag urgency volume deadline = (q, .tagInUse) := by
  rw [takePost_good hgood, if_neg (Nat.not_le.2 hroom), if_pos (hasTag_iff.2 hused)]

theorem OrderQueue.takePost_posts (hgood : ¬PostIsBad tag urgency volume) (hroom : q.orders.length < 8)
    (hfree : ¬∃ o ∈ q.orders, o.tag = tag) :
    q.takePost closed now tag urgency volume deadline =
      (q.post closed (newOrder tag
          (if urgency.toNat = 0 then .routine else if urgency.toNat = 1 then .high else .emergency) volume deadline now),
        okOrClamped (postClamped volume deadline)) := by
  rw [takePost_good hgood, if_neg (Nat.not_le.2 hroom), if_neg (mt hasTag_iff.1 hfree)]

end Post

/-! ### The command (R91, R92) -/

section Command
variable {s : State} {d : District} {tag urgency chk : Byte} {volume deadline : BitVec 32} {q : OrderQueue} {r : Result}

/-- POST ORDER taken: the queue after the checks replaces the district's, and the answer is the result with the number of
orders in it. -/
theorem exec_postOrder (h : s.accepts ⟨.district d, 0x21, [tag, urgency] ++ field32 volume ++ field32 deadline, chk⟩)
    (hpost : (s.queues.get d).takePost s.closed s.clock tag urgency volume deadline = (q, r)) :
    exec (.postOrder (.district d) tag urgency volume deadline chk) s =
      .next ((s.setQueue d q).answer ⟨.district d, 0x21, [tag, urgency] ++ field32 volume ++ field32 deadline, chk⟩
        [r.byte, BitVec.ofNat 8 q.orders.length]) := by
  refine (State.takeFrame_onDistrict _ h).trans ?_
  simp only [hpost, byte1_eq, List.cons_append, List.nil_append]

/-- A refused POST ORDER only answers: the checks hand the queue back as it was. -/
theorem exec_postOrder_refused
    (h : s.accepts ⟨.district d, 0x21, [tag, urgency] ++ field32 volume ++ field32 deadline, chk⟩)
    (hpost : (s.queues.get d).takePost s.closed s.clock tag urgency volume deadline = (s.queues.get d, r)) :
    exec (.postOrder (.district d) tag urgency volume deadline chk) s =
      .next (s.answer ⟨.district d, 0x21, [tag, urgency] ++ field32 volume ++ field32 deadline, chk⟩
        [r.byte, BitVec.ofNat 8 (s.queues.get d).orders.length]) := by
  rw [exec_postOrder h hpost, State.setQueue, Tri.set_get]

end Command

/-- Settles O21: the checks of R91 are the branches of `takePost`, and the order taken is that of `post_eq`. -/
theorem postOrderJoinsTheList : Obligations.PostOrderJoinsTheList := by
  intro d tag urgency volume deadline chk s f h
  refine ⟨fun hbad => ?_, fun hgood hfull => ?_, fun hgood hroom hused => ?_, fun hgood hroom hfree => ?_⟩
  · exact exec_postOrder_refused h (OrderQueue.takePost_bad hbad)
  · exact exec_postOrder_refused h (OrderQueue.takePost_full hgood hfull)
  · exact exec_postOrder_refused h (OrderQueue.takePost_used hgood hroom hused)
  · refine (exec_postOrder h (OrderQueue.takePost_posts hgood hroom hfree)).trans ?_
    simp only [OrderQueue.post_eq, headState_closed, okOrClamped_byte, postClamped_iff, List.length_append]
    rfl

end Sys2Proof.Machine
end

section
/-! PROOFS of chapter 8: two credits that reach one queue together (R152 to R154, R156), settling O48.

Two credits taken one after the other leave what one credit of their sum leaves, but for the overshoots recorded; a sum does
not show the order of its terms. -/

namespace Sys2Proof.Machine

/-! ### The list (R90, R153) -/

section Spend
variable {closed : Bool} {now : Second} {c c1 c2 : Nat} {os : List Order}

@[simp] theorem settleHead_settleHead : settleHead closed (settleHead closed os) = settleHead closed os := by
  cases os <;> rfl

@[simp] theorem isEmpty_settleHead : (settleHead closed os).isEmpty = os.isEmpty := by cases os <;> rfl

theorem ordersServed.settleHead_eq (h : ordersServed closed os) : settleHead closed os = os := by
  cases os with
  | nil => rfl
  | cons o os =>
    obtain ⟨hstate, -⟩ := h
    simp [settleHead, headState, ← hstate]

theorem spend_of_lt {o : Order} (h : c < o.remaining) :
    spend now c (o :: os) = ([], { o with remaining := o.remaining - c } :: os, 0) := if_pos h

theorem spend_of_le {o : Order} (h : o.remaining ≤ c) :
    spend now c (o :: os) =
      (o.doneWith (c - o.remaining) (!os.isEmpty) now :: (spend now (c - o.remaining) os).1,
        (spend now (c - o.remaining) os).2) := if_neg (Nat.not_lt.2 h)

/-- A credit that finishes no order leaves the head where it was, in the state it had. -/
theorem spend_of_no_record (h : (spend now c os).1 = []) (hhead : settleHead closed os = os) :
    settleHead closed (spend now c os).2.1 = (spend now c os).2.1 ∧ (spend now c os).2.1.isEmpty = os.isEmpty := by
  cases os with
  | nil => exact ⟨rfl, rfl⟩
  | cons o os =>
    rcases Nat.lt_or_ge c o.remaining with hlt | hge
    · have hstate : headState closed = o.state := congrArg Order.state (List.cons.inj hhead).1
      simp [spend_of_lt hlt, settleHead, hstate]
    · simp [spend_of_le hge] at h

/-- The state of the head does not show in what a credit does to a list (R153). -/
theorem spend_settleHead :
    (spend now c (settleHead closed os)).1 = (spend now c os).1
    ∧ settleHead closed (spend now c (settleHead closed os)).2.1 = settleHead closed (spend now c os).2.1
    ∧ (spend now c (settleHead closed os)).2.2 = (spend now c os).2.2 := by
  cases os with
  | nil => exact ⟨rfl, rfl, rfl⟩
  | cons o os =>
    rcases Nat.lt_or_ge c o.remaining with hlt | hge
    · simp [settleHead, spend_of_lt, hlt]
    · simp [settleHead, spend_of_le, hge, Order.doneWith]

theorem isEmpty_spend_settleHead :
    (spend now c (settleHead closed os)).2.1.isEmpty = (spend now c os).2.1.isEmpty := by
  obtain ⟨-, horders, -⟩ := spend_settleHead (closed := closed) (now := now) (c := c) (os := os)
  rw [← isEmpty_settleHead (closed := closed), horders, isEmpty_settleHead]

/-- A credit puts no order into an empty list, so a gate closed on the list stays closed. -/
theorem not_isEmpty_and_spend :
    (!os.isEmpty && !(spend now c os).2.1.isEmpty) = !(spend now c os).2.1.isEmpty := by
  cases os <;> simp [spend]

/-- Two credits on a list one after the other finish the orders their sum finishes, and leave the same orders and the same
volume over (R156). -/
theorem spend_add :
    (spend now (c1 + c2) os).1.map Completion.tag
        = (spend now c1 os).1.map Completion.tag ++ (spend now c2 (spend now c1 os).2.1).1.map Completion.tag
    ∧ (spend now (c1 + c2) os).2.1 = (spend now c2 (spend now c1 os).2.1).2.1
    ∧ (spend now (c1 + c2) os).2.2 = (spend now c1 os).2.2 + (spend now c2 (spend now c1 os).2.1).2.2 := by
  induction os generalizing c1 with
  | nil => exact ⟨rfl, rfl, rfl⟩
  | cons o os ih =>
    rcases Nat.lt_or_ge c1 o.remaining with hlt1 | hge1
    · rw [spend_of_lt hlt1]
      rcases Nat.lt_or_ge (c1 + c2) o.remaining with hlt | hge
      · have hlt2 : c2 < o.remaining - c1 := by omega
        simp [spend_of_lt, hlt, hlt2, Nat.sub_sub]
      · have hge2 : o.remaining - c1 ≤ c2 := by omega
        have hover : c2 - (o.remaining - c1) = c1 + c2 - o.remaining := by omega
        simp [spend_of_le, hge, hge2, hover, Order.doneWith]
    · have hover : c1 + c2 - o.remaining = c1 - o.remaining + c2 := by omega
      obtain ⟨htags, horders, hleft⟩ := ih (c1 := c1 - o.remaining)
      rw [spend_of_le hge1, spend_of_le (c := c1 + c2) (by omega), hover]
      exact ⟨by simp [htags, Order.doneWith], horders, hleft⟩

end Spend

/-! ### The completion list (R103) -/

section KeepLast
variable {α : Type} {n : Nat} {l l' : List α}

/-- The last `n` entries of a list; `OrderQueue.finish_eq` keeps the last eight records. -/
def keepLast (n : Nat) (l : List α) : List α := l.drop (l.length - n)

theorem keepLast_of_length_le (h : l.length ≤ n) : keepLast n l = l := by
  rw [keepLast, Nat.sub_eq_zero_of_le h, List.drop_zero]

theorem length_keepLast_le : (keepLast n l).length ≤ n := by
  rw [keepLast, List.length_drop]
  omega

theorem map_keepLast {β : Type} (f : α → β) : (keepLast n l).map f = keepLast n (l.map f) := by
  rw [keepLast, keepLast, List.map_drop, List.length_map]

/-- Records dropped by an earlier overflow would have been dropped by the later one. -/
theorem keepLast_append_of_keepLast : keepLast n (keepLast n l ++ l') = keepLast n (l ++ l') := by
  rcases Nat.le_total l.length n with h | h
  · rw [keepLast_of_length_le h]
  · have hdrop : l.length - n ≤ l.length := Nat.sub_le _ _
    simp only [keepLast, ← List.drop_append_of_le_length hdrop, List.drop_drop, List.length_drop, List.length_append]
    congr 1
    omega

end KeepLast

/-! ### The queue (R152, R154) -/

/-- What R156 compares after two credits: the totals, the orders and the gate of a queue, and of its records the tags alone,
since their overshoots may differ. -/
structure Tally where
  pumped    : Nat
  unordered : Nat
  orders    : List Order
  gateOpen  : Bool
  finished  : List Byte

def OrderQueue.tally (q : OrderQueue) : Tally :=
  ⟨q.pumped, q.unordered, q.orders, q.gateOpen, q.completions.map Completion.tag⟩

/-- What a credit needs of a sound queue: the head is in the state R90 gives it, the gate of an empty list is CLOSED (R100) and
the completion list holds at most 8 records (R103). -/
structure OrderQueue.Settled (closed : Bool) (q : OrderQueue) : Prop where
  head : settleHead closed q.orders = q.orders
  gate : q.orders = [] → q.gateOpen = false
  completions : q.completions.length ≤ 8

theorem OrderQueue.Sound.settled {closed : Bool} {q : OrderQueue} (h : q.Sound closed) : q.Settled closed :=
  ⟨h.served.settleHead_eq, h.gate, h.completions⟩

section Credit
variable {q : OrderQueue} {closed : Bool} {now : Second} {c c1 c2 : Nat}

/-- What a credit leaves, whether it finishes an order or not. -/
theorem OrderQueue.Settled.credit_tally (h : q.Settled closed) :
    (q.credit closed now c).queue.tally =
      { pumped := min (2 ^ 48 - 1) (q.pumped + c)
        unordered := min 4294967295 (q.unordered + (spend now c q.orders).2.2)
        orders := settleHead closed (spend now c q.orders).2.1
        gateOpen := q.gateOpen && !(spend now c q.orders).2.1.isEmpty
        finished := keepLast 8 (q.completions.map Completion.tag ++ (spend now c q.orders).1.map Completion.tag) } := by
  unfold OrderQueue.credit
  dsimp only
  split
  case isTrue hnone =>
    have hnil : (spend now c q.orders).1 = [] := List.isEmpty_iff.1 hnone
    obtain ⟨hhead, hempty⟩ := spend_of_no_record hnil h.head
    have hgate : (q.gateOpen && !q.orders.isEmpty) = q.gateOpen := by
      cases horders : q.orders with
      | nil => simp [h.gate horders]
      | cons o os => simp
    have hkept : keepLast 8 (q.completions.map Completion.tag) = q.completions.map Completion.tag :=
      keepLast_of_length_le (by simpa using h.completions)
    simp [OrderQueue.tally, hnil, hhead, hempty, hgate, hkept]
  case isFalse =>
    rw [OrderQueue.finish_eq]
    · rw [OrderQueue.tally, ← List.length_append, ← keepLast, map_keepLast, List.map_append, isEmpty_settleHead]
    · exact h.completions

/-- The next credit finds the queue settled again. -/
theorem OrderQueue.Settled.credit (h : q.Settled closed) : (q.credit closed now c).queue.Settled closed := by
  have htally := h.credit_tally (now := now) (c := c)
  simp only [OrderQueue.tally, Tally.mk.injEq] at htally
  obtain ⟨-, -, horders, hgate, htags⟩ := htally
  refine ⟨by rw [horders, settleHead_settleHead], fun hnil => ?_, ?_⟩
  · have hempty : (spend now c q.orders).2.1.isEmpty = true := by rw [← isEmpty_settleHead, ← horders, hnil]; rfl
    simp [hgate, hempty]
  · rw [← List.length_map Completion.tag, htags]
    exact length_keepLast_le

/-- Two credits leave what one credit of their sum leaves (R156). -/
theorem OrderQueue.Settled.credit_credit_tally (h : q.Settled closed) :
    ((q.credit closed now c1).queue.credit closed now c2).queue.tally = (q.credit closed now (c1 + c2)).queue.tally := by
  have htally := h.credit_tally (now := now) (c := c1)
  simp only [OrderQueue.tally, Tally.mk.injEq] at htally
  obtain ⟨hpumped, hunordered, horders, hgate, htags⟩ := htally
  obtain ⟨hrecords, hhead, hleft⟩ :=
    spend_settleHead (closed := closed) (now := now) (c := c2) (os := (spend now c1 q.orders).2.1)
  obtain ⟨hsumTags, hsumOrders, hsumLeft⟩ := spend_add (now := now) (c1 := c1) (c2 := c2) (os := q.orders)
  rw [h.credit.credit_tally, h.credit_tally, hpumped, hunordered, horders, hgate, htags, hrecords, hhead, hleft, hsumTags,
    hsumOrders, hsumLeft, keepLast_append_of_keepLast, isEmpty_spend_settleHead, Bool.and_assoc, not_isEmpty_and_spend,
    List.append_assoc, Tally.mk.injEq]
  exact ⟨by omega, by omega, rfl, rfl, rfl⟩

end Credit

/-- Settles O48: each order of the two credits leaves the tally of their sum. -/
theorem creditsCommute : Obligations.CreditsCommute := by
  intro q closed now c1 c2 hsound a b
  have htally : a.tally = b.tally := by
    rw [hsound.settled.credit_credit_tally, hsound.settled.credit_credit_tally, Nat.add_comm]
  simp only [OrderQueue.tally, Tally.mk.injEq] at htally
  obtain ⟨hpumped, hunordered, horders, hgate, htags⟩ := htally
  exact ⟨hpumped, hunordered, horders, hgate, by simpa using congrArg List.length htags, htags⟩

end Sys2Proof.Machine
end

section
/-! PROOFS of chapter 9: READ UNIT (R174), settling O15.

An answer is a run of fields, each a width and the number written in it; `readsAs_layout` reads every field of such a run back
at its place. `UnitRec.fields` is the unit record as a run, and what remains is the number each field holds. -/

namespace Sys2Proof.Machine

/-! ### Runs of fields (R1) -/

/-- The bytes of a run of fields, each given by its width in bytes and the number written in it. -/
def layout (fields : List (Nat × Nat)) : List Byte := fields.flatMap fun f => beBytes f.1 f.2

@[simp] theorem layout_nil : layout [] = [] := rfl

@[simp] theorem layout_cons (n v : Nat) (fs : List (Nat × Nat)) : layout ((n, v) :: fs) = beBytes n v ++ layout fs := rfl

@[simp] theorem length_layout (fs : List (Nat × Nat)) : (layout fs).length = (fs.map Prod.fst).sum := by
  simp [layout, List.length_flatMap]

/-- From place `k` of an answer on the fields stand one behind the other, each as far as its bytes hold it. -/
def ReadsAs (r : List Byte) (k : Nat) : List (Nat × Nat) → Prop
  | [] => True
  | f :: fs => fieldAt r k f.1 = f.2 % 256 ^ f.1 ∧ ReadsAs r (k + f.1) fs

theorem readsAs_layout (front : List Byte) (fs : List (Nat × Nat)) :
    ReadsAs (front ++ layout fs) front.length fs := by
  induction fs generalizing front with
  | nil => trivial
  | cons f fs ih =>
    have hrest := ih (front ++ beBytes f.1 f.2)
    rw [List.append_assoc, List.length_append, beBytes_length] at hrest
    exact ⟨fieldAt_beBytes_between front (layout fs) _ _ _ rfl, hrest⟩

/-! ### The unit record as a run of fields (R174) -/

/-- The fields of READ UNIT after the result code. -/
def UnitRec.fields (u : UnitRec) (now : Second) : List (Nat × Nat) :=
  [(1, u.state.code), (1, codeOrAbsent TripReason.code u.tripReason), (1, codeOrAbsent StopReason.code u.stopReason),
    (1, u.commandedBay.val), (1, u.selPos.val), (1, boolCode u.avail), (1, boolCode u.atSpeed), (1, boolCode u.runReq),
    (1, boolCode u.uncommanded), (2, u.estimate), (4, u.creditMark.toNat), (2, u.runHold.left), (2, u.rest.left),
    (2, u.stateTimer.left), (1, u.history.length), (2, u.oldestAge now), (1, boolCode u.configPending),
    (1, codeOrAbsent PortId.code u.clearedBy), (1, boolCode u.cfg.enable), (1, u.cfg.cls.val), (1, reachCode u.cfg.reach),
    (2, u.cfg.minRun), (2, u.cfg.minRest), (1, u.cfg.maxStarts), (2, u.cfg.startTimeout), (2, u.cfg.stopTimeout),
    (2, u.cfg.travelTimeout)]

theorem UnitRec.bytes_eq_layout (u : UnitRec) (now : Second) : u.bytes now = layout (u.fields now) := by
  unfold UnitRec.bytes
  simp only [UnitRec.fields, layout_cons, layout_nil, byte1, List.append_assoc, List.append_nil]

/-! ### What one byte of the record holds (R174) -/

theorem boolCode_mod (b : Bool) : boolCode b % 256 = if b = true then 1 else 0 := by cases b <;> rfl

theorem UnitState.code_mod (st : UnitState) :
    st.code % 256 = match st with
      | .offline => 0 | .idle => 1 | .resting => 2 | .switching => 3 | .starting => 4 | .running => 5
      | .stopping => 6 | .tripped => 7 := by
  cases st <;> rfl

theorem tripReason_mod (reason : Option TripReason) :
    codeOrAbsent TripReason.code reason % 256 = match reason with
      | some .startTimeout => 0 | some .lostRun => 1 | some .stopTimeout => 2 | some .selector => 3
      | some .travelTimeout => 4 | some .uncommandedRun => 5 | none => 255 := by
  cases reason with
  | none => rfl
  | some t => cases t <;> rfl

theorem stopReason_mod (reason : Option StopReason) :
    codeOrAbsent StopReason.code reason % 256 = match reason with
      | some .shedCap => 0 | some .shedPower => 1 | some .closure => 2 | some .head => 3 | some .suction => 4
      | some .noDemand => 5 | some .rebalance => 6 | none => 255 := by
  cases reason with
  | none => rfl
  | some t => cases t <;> rfl

theorem clearedBy_mod (port : Option PortId) :
    codeOrAbsent PortId.code port % 256 = match port with
      | some (.district d) => d.val | some .river => 3 | none => 255 := by
  match port with
  | none | some .river => rfl
  | some (.district d) =>
    have hd : d.val < 3 := d.isLt
    exact Nat.mod_eq_of_lt (show d.val < 256 by omega)

theorem reachCode_mod (r : Tri Bool) :
    reachCode r % 256 =
      (if r.a0 = true then 1 else 0) + 2 * (if r.a1 = true then 1 else 0) + 4 * (if r.a2 = true then 1 else 0) := by
  obtain ⟨b0, b1, b2⟩ := r
  cases b0 <;> cases b1 <;> cases b2 <;> rfl

theorem UnitRec.uncommanded_mod (u : UnitRec) :
    boolCode u.uncommanded % 256 =
      if (u.state = .offline ∨ u.state = .tripped) ∧ u.atSpeed = true then 1 else 0 := by
  simp only [boolCode_mod, UnitRec.uncommanded, Bool.and_eq_true, Bool.or_eq_true, decide_eq_true_eq]

/-! ### The age of the oldest start (R82) -/

/-- The age is bounded at 3,599, and below that it is the time since the oldest start (log entry 14). -/
theorem UnitRec.oldestAge_eq (u : UnitRec) (now : Second) :
    u.oldestAge now = min 3599 ((u.history.head?.map fun t => (now - t).toNat).getD 0) := by
  cases hist : u.history <;> simp [UnitRec.oldestAge, hist, elapsed]

/-- Two bytes hold it whole. -/
theorem UnitRec.oldestAge_mod (u : UnitRec) (now : Second) : u.oldestAge now % 65536 = u.oldestAge now := by
  rw [u.oldestAge_eq now]
  omega

/-! ### The command (R174) -/

theorem unitOf_eq_none {n : Byte} (h : 7 < n.toNat) : unitOf n = none := dif_neg (by omega)

theorem unitOf_eq_some {n : Byte} {i : UnitId} (h : n.toNat = i.val) : unitOf n = some i := by
  rw [unitOf, dif_pos (by omega)]
  exact congrArg some (Fin.ext h)

section Command
variable {s : State} {p : PortId} {unit chk : Byte}

/-- READ UNIT of no unit: BAD_VALUE and zeros. -/
theorem exec_readUnit_bad (h : s.accepts ⟨p, 0x06, [unit], chk⟩) (hunit : unitOf unit = none) :
    exec (.readUnit p unit chk) s =
      .next ((s.heardOn p).answer ⟨p, 0x06, [unit], chk⟩ (0x20 :: List.replicate 40 0)) := by
  refine (State.takeFrame_accepts _ h).trans ?_
  rw [hunit]
  exact congrArg _ (Reply.deliver_eq ..)

/-- READ UNIT of a unit: OK and its record, of the state before the frame, since hearing it leaves units and clock alone. -/
theorem exec_readUnit_ok {i : UnitId} (h : s.accepts ⟨p, 0x06, [unit], chk⟩) (hunit : unitOf unit = some i) :
    exec (.readUnit p unit chk) s =
      .next ((s.heardOn p).answer ⟨p, 0x06, [unit], chk⟩ ([0x00] ++ layout ((s.units.get i).fields s.clock))) := by
  refine (State.takeFrame_accepts _ h).trans ?_
  rw [hunit, ← UnitRec.bytes_eq_layout, ← State.heardOn_units s p, ← State.heardOn_clock s p]
  exact congrArg _ (Reply.deliver_eq ..)

end Command

/-- Settles O15: the answer is a run of fields, and each is read back at its place. -/
theorem readUnitFields : Obligations.ReadUnitFields := by
  intro p unit chk s h
  refine ⟨fun hbad => exec_readUnit_bad h (unitOf_eq_none hbad), fun i hi => ?_⟩
  refine ⟨_, exec_readUnit_ok h (unitOf_eq_some hi), by simp [UnitRec.fields], fieldAt_cons_zero _ _, ?_⟩
  have hfields := readsAs_layout [0x00] ((s.units.get i).fields s.clock)
  generalize [0x00] ++ layout ((s.units.get i).fields s.clock) = r at hfields ⊢
  simp only [UnitRec.fields, ReadsAs, List.length_singleton, Nat.reduceAdd, Nat.reducePow] at hfields
  obtain ⟨hstate, htrip, hstop, hbay, hsel, havail, hspeed, hrun, huncommanded, hestimate, hmark, hhold, hrest, htimer,
    hstarts, hage, hpending, hcleared, henable, hcls, hreach, hminRun, hminRest, hmaxStarts, hstartTimeout, hstopTimeout,
    htravelTimeout, -⟩ := hfields
  rw [UnitRec.oldestAge_mod, UnitRec.oldestAge_eq] at hage
  exact ⟨hstate.trans (UnitState.code_mod _), htrip.trans (tripReason_mod _), hstop.trans (stopReason_mod _),
    hbay.trans (Nat.mod_eq_of_lt (by omega)), hsel.trans (Nat.mod_eq_of_lt (by omega)), havail.trans (boolCode_mod _),
    hspeed.trans (boolCode_mod _), hrun.trans (boolCode_mod _), huncommanded.trans (UnitRec.uncommanded_mod _), hestimate,
    hmark.trans (Nat.mod_eq_of_lt (BitVec.isLt _)), hhold, hrest, htimer, hstarts,
    ⟨Nat.le_trans (Nat.le_of_eq hage) (Nat.min_le_left _ _), fun hle => hage.trans (Nat.min_eq_right hle)⟩,
    hpending.trans (boolCode_mod _), hcleared.trans (clearedBy_mod _), henable.trans (boolCode_mod _),
    hcls.trans (Nat.mod_eq_of_lt (by omega)), hreach.trans (reachCode_mod _), hminRun, hminRest, hmaxStarts, hstartTimeout,
    hstopTimeout, htravelTimeout⟩

end Sys2Proof.Machine
end

section
/-! PROOFS of chapter 10: SET NOTICE MASK (R179), settling O10. -/

namespace Sys2Proof.Machine

/-! ### The attention line in the words of the claims (R178) -/

theorem attention_eq_decide (set mask : BitVec 14) : attention set mask = decide (set &&& ~~~mask ≠ 0) := by
  rw [Bool.eq_iff_iff, attention, bne_iff_ne, decide_eq_true_iff]

/-- A new mask replaces the mask and drives the line by it; set, kinds posted since and snapshots stay. -/
theorem NoticePort.setMask_eq (n : NoticePort) (m : BitVec 14) :
    n.setMask m = { n with mask := m, attn := decide (n.set &&& ~~~m ≠ 0) } := by
  rw [NoticePort.setMask, NoticePort.drive, attention_eq_decide]

/-! ### The command (R179) -/

/-- The port's notice record takes the low 14 bits as its mask, and the answer is OK. -/
theorem exec_setNoticeMask {s : State} {p : PortId} {mask : BitVec 16} {chk : Byte}
    (h : s.accepts ⟨p, 0x04, field16 mask, chk⟩) :
    exec (.setNoticeMask p mask chk) s =
      .next (((s.heardOn p).setNotice p (((s.heardOn p).notices.get p).setMask (mask.truncate 14))).answer
        ⟨p, 0x04, field16 mask, chk⟩ [0x00]) :=
  (State.takeFrame_accepts _ h).trans (congrArg _ (Reply.deliver_eq ..))

/-- Settles O10: the new mask is the operand without bits 15 and 14. -/
theorem setNoticeMaskReplacesTheMask : Obligations.SetNoticeMaskReplacesTheMask := by
  intro p mask chk s h
  refine ⟨mask.truncate 14, fun k hk => ?_, ?_⟩
  · rw [BitVec.truncate_eq_setWidth, BitVec.getLsbD_setWidth, decide_eq_true hk, Bool.true_and]
  · rw [exec_setNoticeMask h, NoticePort.setMask_eq, State.setNotice]

end Sys2Proof.Machine
end

section
/-! PROOFS of chapter 8: one credit (R152 to R154), settling O47, and what the events of a queue keep of its promises (R87 to
R90, R100, R103).

A sound queue is a settled one (its head, gate and completion list) over a serviceable list (everything R88 to R90 say that does
not depend on closure). Every event leaves a sublist of the orders, a head reduced, or one order more, and settles the head. -/

namespace Sys2Proof.Machine

/-! ### Serviceable lists (R88, R89, R90) -/

/-- An order in the ranges of R88. -/
structure Order.InRange (o : Order) : Prop where
  tag : o.tag ≠ 0
  posted : 1000 ≤ o.posted ∧ o.posted ≤ 2000000000
  remaining : 1 ≤ o.remaining ∧ o.remaining ≤ o.posted
  deadline : ∀ n, o.deadline = some n → 60 ≤ n ∧ n ≤ 604800

/-- What R88 to R90 promise of a list whatever its head's state: at most eight orders in range with tags of their own, those
behind the head QUEUED with their whole volume. -/
structure Serviceable (os : List Order) : Prop where
  length : os.length ≤ 8
  tags : (os.map Order.tag).Nodup
  inRange : ∀ o ∈ os, o.InRange
  waiting : ∀ o ∈ os.tail, o.state = .queued ∧ o.remaining = o.posted

section Serviceable
variable {os l : List Order} {closed : Bool}

theorem Serviceable.nil : Serviceable [] := ⟨by simp, by simp, by simp, by simp⟩

theorem Serviceable.sublist (h : Serviceable os) (hl : l.Sublist os) : Serviceable l :=
  ⟨Nat.le_trans hl.length_le h.length, h.tags.sublist (hl.map _), fun o ho => h.inRange o (hl.subset ho),
    fun o ho => h.waiting o (hl.tail.subset ho)⟩

/-- An order that takes the head's place with the head's tag. -/
theorem Serviceable.replaceHead {o o' : Order} (h : Serviceable (o :: os)) (htag : o'.tag = o.tag) (ho : o'.InRange) :
    Serviceable (o' :: os) := by
  obtain ⟨hlength, htags, hrange, hwait⟩ := h
  refine ⟨hlength, ?_, ?_, hwait⟩
  · simpa [htag] using htags
  · exact List.forall_mem_cons.2 ⟨ho, (List.forall_mem_cons.1 hrange).2⟩

theorem Serviceable.settleHead (h : Serviceable os) : Serviceable (settleHead closed os) := by
  cases os with
  | nil => exact h
  | cons o os =>
    have ho := h.inRange o List.mem_cons_self
    exact h.replaceHead rfl ⟨ho.tag, ho.posted, ho.remaining, ho.deadline⟩

/-- A spent credit takes orders from the head and reduces the next, by less than its remaining (R153). -/
theorem Serviceable.spend {now : Second} {c : Nat} (h : Serviceable os) : Serviceable (spend now c os).2.1 := by
  induction os generalizing c with
  | nil => exact h
  | cons o os ih =>
    rcases Nat.lt_or_ge c o.remaining with hlt | hge
    · rw [spend_of_lt hlt]
      have ho := h.inRange o List.mem_cons_self
      have hle := ho.remaining
      have hleft : 1 ≤ o.remaining - c ∧ o.remaining - c ≤ o.posted := by omega
      exact h.replaceHead rfl ⟨ho.tag, ho.posted, hleft, ho.deadline⟩
    · rw [spend_of_le hge]
      exact ih (h.sublist (List.sublist_cons_self o os))

/-- The promises of R90 are those of a serviceable list whose head is settled. -/
theorem ordersServed_iff :
    ordersServed closed os ↔
      Sys2Proof.Machine.settleHead closed os = os ∧ ∀ o ∈ os.tail, o.state = .queued ∧ o.remaining = o.posted := by
  constructor
  · intro h
    refine ⟨h.settleHead_eq, ?_⟩
    cases os with
    | nil => simp
    | cons o os => exact h.2
  · rintro ⟨hhead, hwait⟩
    cases os with
    | nil => trivial
    | cons o os =>
      have hstate : headState closed = o.state := congrArg Order.state (List.cons.inj hhead).1
      exact ⟨hstate.symm, hwait⟩

end Serviceable

/-! ### Sound queues (R87 to R90, R100, R103, R107, R109) -/

/-- A sound queue is a settled one over a serviceable list, with its totals in range. -/
theorem OrderQueue.sound_iff {closed : Bool} {q : OrderQueue} :
    q.Sound closed ↔
      q.Settled closed ∧ Serviceable q.orders ∧ q.unordered ≤ 4294967295 ∧ q.pumped ≤ 281474976710655 := by
  constructor
  · intro h
    refine ⟨h.settled, ⟨h.length, h.tags, fun o ho => ?_, (ordersServed_iff.1 h.served).2⟩, h.unordered, h.pumped⟩
    obtain ⟨htag, hlow, hhigh, hone, hposted⟩ := h.volumes o ho
    exact ⟨htag, ⟨hlow, hhigh⟩, ⟨hone, hposted⟩, h.deadlines o ho⟩
  · rintro ⟨hsettled, hlist, hunordered, hpumped⟩
    refine ⟨hlist.length, hlist.tags, fun o ho => ?_, fun o ho => (hlist.inRange o ho).deadline,
      ordersServed_iff.2 ⟨hsettled.head, hlist.waiting⟩, hsettled.gate, hsettled.completions, hunordered, hpumped⟩
    have hr := hlist.inRange o ho
    exact ⟨hr.tag, hr.posted.1, hr.posted.2, hr.remaining.1, hr.remaining.2⟩

/-! ### The orders a credit finishes (R153) -/

section Spend
variable {now : Second} {c : Nat} {os : List Order}

theorem spend_leftover_le : (spend now c os).2.2 ≤ c := by
  induction os generalizing c with
  | nil => exact Nat.le_refl _
  | cons o os ih =>
    rcases Nat.lt_or_ge c o.remaining with hlt | hge
    · simp [spend_of_lt hlt]
    · rw [spend_of_le hge]
      exact Nat.le_trans ih (Nat.sub_le _ _)

/-- The record of a finished order: what reached it beyond its remaining, and whether an order stood behind it (R94, R153). -/
theorem spend_record {j : Nat} {r : Completion} (h : (spend now c os).1[j]? = some r) :
    r.overshoot = c - ((os.take (j + 1)).map Order.remaining).sum
    ∧ ((os.take (j + 1)).map Order.remaining).sum ≤ c ∧ r.carried = decide (j + 1 < os.length) := by
  induction os generalizing c j with
  | nil => simp [spend] at h
  | cons o os ih =>
    rcases Nat.lt_or_ge c o.remaining with hlt | hge
    · simp [spend_of_lt hlt] at h
    · rw [spend_of_le hge] at h
      cases j with
      | zero =>
        cases h
        refine ⟨by simp [Order.doneWith], by simpa using hge, ?_⟩
        cases os <;> simp [Order.doneWith]
      | succ j =>
        obtain ⟨hover, hle, hcarried⟩ := ih (by simpa using h)
        refine ⟨?_, ?_, by simpa using hcarried⟩ <;> simp only [List.take_succ_cons, List.map_cons, List.sum_cons] <;> omega

theorem map_settleHead {β : Type} (f : Order → β) (hf : ∀ o st, f { o with state := st } = f o) (closed : Bool) :
    (settleHead closed os).map f = os.map f := by
  cases os <;> simp [settleHead, hf]

end Spend

/-! ### One credit (R152) -/

section Credit
variable {q : OrderQueue} {closed : Bool} {now : Second} {c : Nat}

/-- Everything a credit does to a settled queue, whether it finishes an order or not. -/
theorem OrderQueue.Settled.credit_eq (h : q.Settled closed) :
    q.credit closed now c =
      { queue :=
          { q with
            orders := settleHead closed (spend now c q.orders).2.1
            gateOpen := q.gateOpen && !(spend now c q.orders).2.1.isEmpty
            completions := (q.completions ++ (spend now c q.orders).1).drop
              (q.completions.length + (spend now c q.orders).1.length - 8)
            unordered := min 4294967295 (q.unordered + (spend now c q.orders).2.2)
            pumped := min (2 ^ 48 - 1) (q.pumped + c)
            readDrops := if (spend now c q.orders).1 = [] then q.readDrops else
              min 8 (q.readDrops + (q.completions.length + (spend now c q.orders).1.length - 8)) }
        finished := !(spend now c q.orders).1.isEmpty
        overflowed := decide (8 < q.completions.length + (spend now c q.orders).1.length) } := by
  unfold OrderQueue.credit
  dsimp only
  split
  case isTrue hnone =>
    have hnil : (spend now c q.orders).1 = [] := List.isEmpty_iff.1 hnone
    obtain ⟨hhead, hempty⟩ := spend_of_no_record hnil h.head
    have hgate : (q.gateOpen && !q.orders.isEmpty) = q.gateOpen := by
      cases horders : q.orders with
      | nil => simp [h.gate horders]
      | cons o os => simp
    have hroom : q.completions.length - 8 = 0 := Nat.sub_eq_zero_of_le h.completions
    have hnot : ¬8 < q.completions.length := Nat.not_lt.2 h.completions
    simp [hnil, hhead, hempty, hgate, hroom, hnot]
  case isFalse hsome =>
    rw [OrderQueue.finish_eq]
    · simp only [isEmpty_settleHead, if_neg (mt List.isEmpty_iff.2 hsome)]
    · exact h.completions

/-- A credit keeps every promise of a queue (R154). -/
theorem OrderQueue.Sound.credit (h : q.Sound closed) : (q.credit closed now c).queue.Sound closed := by
  obtain ⟨hsettled, hlist, -, -⟩ := OrderQueue.sound_iff.1 h
  have hleft : Serviceable (q.credit closed now c).queue.orders := by
    rw [hsettled.credit_eq]
    exact hlist.spend.settleHead
  have hunordered : (q.credit closed now c).queue.unordered ≤ 4294967295 := by
    rw [hsettled.credit_eq]
    exact Nat.min_le_left _ _
  have hpumped : (q.credit closed now c).queue.pumped ≤ 281474976710655 := by
    rw [hsettled.credit_eq]
    exact Nat.min_le_left _ _
  exact OrderQueue.sound_iff.2 ⟨hsettled.credit, hleft, hunordered, hpumped⟩

end Credit

/-- Settles O47: the division is that of `spend`, and `spend_record` gives the record of each order it finishes. -/
theorem creditIsDividedWithoutRemainder : Obligations.CreditIsDividedWithoutRemainder := by
  intro q closed now c hsound e
  have he : e = _ := hsound.settled.credit_eq (now := now) (c := c)
  obtain ⟨k, hk, hrecords, hleft, hsum, hempty, hdone, hstay⟩ := spend_eq now c q.orders
  have hpumped : e.queue.pumped = _ := congrArg (fun x : QueueEffect => x.queue.pumped) he
  refine ⟨hsound.credit, hpumped, k, (spend now c q.orders).2.2, (spend now c q.orders).1, hk, spend_leftover_le, ?_,
    by rw [he], fun h => ?_, ?_, hdone, fun j r => spend_record, ?_, ?_, ?_⟩
  · have hle := spend_leftover_le (now := now) (c := c) (os := q.orders)
    rw [he, map_settleHead _ (fun _ _ => rfl)]
    omega
  · rw [he, hempty h]
    rfl
  · have hmap := congrArg (List.map fun x : Byte × Urgency × Nat × Second × Option Nat × OrderState =>
      (x.1, x.2.1, x.2.2.1, x.2.2.2.1, x.2.2.2.2.1)) hstay
    simp only [List.map_map] at hmap
    rw [he, map_settleHead _ (fun _ _ => rfl)]
    exact hmap
  · rw [he, hrecords]
  · rw [he, ← hrecords]
    cases (spend now c q.orders).1 <;> simp
  · rw [he, hrecords]

end Sys2Proof.Machine
end

section
/-! PROOFS of the invariant, its layer of records: the invariant as one promise per record, and what the replacement of a record
needs of the new one. Settles O60. -/

namespace Sys2Proof.Machine

/-! ### One promise per record -/

/-- What the invariant promises of a unit record; `up` is RESET_n, `closed` says that closure is in force. -/
structure UnitRec.Kept (up closed : Bool) (u : UnitRec) : Prop where
  sound : u.Sound up
  closure : closed = true → u.state ≠ .starting ∧ u.state ≠ .running
  cfg : u.cfg.InRange
  pending : ∀ c, u.pendingCfg = some c → c.InRange
  estimate : u.estimate ≤ 12000
  history : u.history.length ≤ 6

/-- What the invariant promises of a bay record. -/
structure Bay.Kept (up : Bool) (b : Bay) : Prop where
  sound : up = true → b.Sound
  cfg : b.cfg.InRange

/-- What the invariant promises of the river record. -/
structure River.Kept (up : Bool) (r : River) : Prop where
  sound : up = true → r.Sound
  cap : r.cap ≤ 60000

/-- What the invariant promises of the Configuration Store. -/
structure Store.Kept (x : Store) : Prop where
  commit : ∀ c, x.commit = some c → c.copy.InRange
  image : ∀ w, x.image = .passing w → w.InRange

/-- The invariant, record by record, of a part with RESET_n at `up` and closure at `closed`. `stopped` says that no unit is in
STARTING or RUNNING; it is `closed` but while CLOSE STATION sends its stops (R118). -/
structure State.Meets (up stopped closed : Bool) (s : State) : Prop where
  resetN : s.resetN = up
  closure : s.closed = closed
  notices : ∀ p, (s.notices.get p).attnSound up
  units : ∀ i, (s.units.get i).Kept up stopped
  queues : ∀ d, (s.queues.get d).Sound closed
  bays : ∀ d, (s.bays.get d).Kept up
  river : s.river.Kept up
  curves : ∀ c, (s.curves.get c).InRange
  station : s.station.InRange
  store : s.store.Kept

theorem State.closed_iff {s : State} : s.closed = true ↔ s.river.closure ≠ none := by
  unfold State.closed
  cases s.river.closure <;> simp

theorem State.Inv.meets {s : State} (h : s.Inv) : s.Meets s.resetN s.closed s.closed := by
  obtain ⟨hattn, hunits, hclosure, hqueues, hwater, ⟨⟨hcurves, hucfg, hbcfg, hstation⟩, hpending, hcommit, himage⟩,
    ⟨hestimate, hhistory, hcap⟩⟩ := h
  refine ⟨rfl, rfl, hattn, fun i => ?_, hqueues, fun d => ?_, ⟨fun up => (hwater up).2, hcap⟩, hcurves, hstation,
    ⟨hcommit, himage⟩⟩
  · exact ⟨hunits i, fun h => hclosure (State.closed_iff.1 h) i, by simpa [State.working] using hucfg i, hpending i,
      hestimate i, hhistory i⟩
  · exact ⟨fun up => (hwater up).1 d, by simpa [State.working] using hbcfg d⟩

theorem State.Meets.inv {s : State} {up closed : Bool} (h : s.Meets up closed closed) : s.Inv := by
  obtain ⟨rfl, rfl, hattn, hunits, hqueues, hbays, hriver, hcurves, hstation, hstore⟩ := h
  exact
    { attention := hattn
      units := fun i => (hunits i).sound
      closure := fun h i => (hunits i).closure (State.closed_iff.2 h)
      queues := hqueues
      water := fun up => ⟨fun d => (hbays d).sound up, hriver.sound up⟩
      config :=
        { working := ⟨hcurves, fun i => by simpa [State.working] using (hunits i).cfg,
            fun d => by simpa [State.working] using (hbays d).cfg, hstation⟩
          pending := fun i => (hunits i).pending
          commit := hstore.commit
          image := hstore.image }
      values := ⟨fun i => (hunits i).estimate, fun i => (hunits i).history, hriver.cap⟩ }

/-! ### Replacing one record -/

section Replace
variable {s : State} {up stopped closed : Bool}

theorem State.Meets.setNotice (h : s.Meets up stopped closed) {p : PortId} {n : NoticePort} (hn : n.attnSound up) :
    (s.setNotice p n).Meets up stopped closed := by
  refine { h with notices := fun q => ?_ }
  by_cases hq : q = p
  · simpa [hq] using hn
  · simpa [hq] using h.notices q

theorem State.Meets.setUnit (h : s.Meets up stopped closed) {i : UnitId} {u : UnitRec} (hu : u.Kept up stopped) :
    (s.setUnit i u).Meets up stopped closed := by
  refine { h with units := fun j => ?_ }
  by_cases hj : j = i
  · simpa [hj] using hu
  · simpa [hj] using h.units j

theorem State.Meets.setQueue (h : s.Meets up stopped closed) {d : District} {q : OrderQueue} (hq : q.Sound closed) :
    (s.setQueue d q).Meets up stopped closed := by
  refine { h with queues := fun e => ?_ }
  by_cases he : e = d
  · simpa [he] using hq
  · simpa [he] using h.queues e

theorem State.Meets.setBay (h : s.Meets up stopped closed) {d : District} {b : Bay} (hb : b.Kept up) :
    (s.setBay d b).Meets up stopped closed := by
  refine { h with bays := fun e => ?_ }
  by_cases he : e = d
  · simpa [he] using hb
  · simpa [he] using h.bays e

theorem State.Meets.setRiver (h : s.Meets up stopped closed) {r : River} (hr : r.Kept up)
    (hclosure : r.closure = s.river.closure) : (s.setRiver r).Meets up stopped closed :=
  { h with closure := (congrArg Option.isSome hclosure).trans h.closure, river := hr }

theorem State.Meets.setStore (h : s.Meets up stopped closed) {x : Store} (hx : x.Kept) :
    (s.setStore x).Meets up stopped closed := { h with store := hx }

theorem State.Meets.setPort (h : s.Meets up stopped closed) {p : PortId} {x : PortIf} :
    (s.setPort p x).Meets up stopped closed := { h with }

theorem State.Meets.setDisp (h : s.Meets up stopped closed) {x : Dispatcher} :
    (s.setDisp x).Meets up stopped closed := { h with }

end Replace

/-! ### The part after reset -/

theorem factoryCurve_inRange : factoryCurve.InRange := by
  simp [CurveClass.InRange, factoryCurve, Six.toList]

theorem factoryUnit_inRange : factoryUnit.InRange := by simp [UnitConfig.InRange, factoryUnit]

theorem factoryBay_inRange : factoryBay.InRange := by simp [BayConfig.InRange, factoryBay]

theorem factoryStation_inRange : factoryStation.InRange := by simp [StationConfig.InRange, factoryStation, Tri.toList]

theorem factoryConfig_inRange : factoryConfig.InRange := by
  refine ⟨fun c => ?_, fun i => ?_, fun d => ?_, factoryStation_inRange⟩
  · match c with
    | 0 | 1 | 2 | 3 => exact factoryCurve_inRange
  · simpa [factoryConfig] using factoryUnit_inRange
  · simpa [factoryConfig] using factoryBay_inRange

/-- An Order Queue after reset is sound (R110). -/
theorem resetQueue_sound (closed : Bool) : resetQueue.Sound closed :=
  OrderQueue.sound_iff.2 ⟨⟨rfl, fun _ => rfl, by simp [resetQueue]⟩, Serviceable.nil, by simp [resetQueue],
    by simp [resetQueue]⟩

/-- Every kind is masked after reset, so the line is released (R184). -/
theorem resetNoticePort_sound (up : Bool) : resetNoticePort.attnSound up := by
  simp [NoticePort.attnSound, resetNoticePort]

/-- A bay record after a reset is sound: its level used is the float level, which is clear of LOW_SUCTION (R18). -/
theorem Bay.Kept.afterReset {b : Bay} {up : Bool} (h : b.cfg.InRange) : b.afterReset.Kept up := by
  refine ⟨fun _ => ?_, h⟩
  have hlevel : b.cfg.floor + 100 ≤ b.cfg.floatLevel := h.2.2.2.2.1
  exact
    { age := fun _ => rfl
      levelUsed := rfl
      suctionClear := fun _ => rfl
      suctionSet := fun _ hlow => by simp only [Bay.afterReset] at hlow; omega
      demand := id
      selfClearing := fun _ => id }

theorem River.Kept.afterReset {r : River} {c : StationConfig} {up : Bool} (h : c.InRange) :
    (r.afterReset c).Kept up := by
  refine ⟨fun _ => ?_, h.2.2.1⟩
  constructor <;> simp [River.afterReset]

/-- Settles O60: the blocks after a reset over the factory defaults. -/
theorem resetMeetsTheInvariant : Obligations.ResetMeetsTheInvariant := by
  refine State.Meets.inv (up := true) (closed := true) ⟨rfl, rfl, fun p => ?_, fun i => ?_, fun d => ?_, fun d => ?_, ?_,
    factoryConfig_inRange.1, factoryStation_inRange, ⟨by simp [State.reset], by simp [State.reset]⟩⟩
  · cases p <;> simpa [State.reset, Ports.get] using resetNoticePort_sound true
  · simp only [State.reset, Oct.get_ofFn]
    exact
      { sound := by constructor <;> simp [Timer.zero, Timer.sound]
        closure := by simp
        cfg := factoryUnit_inRange
        pending := by simp
        estimate := by simp
        history := by simp }
  · simpa only [State.reset, Tri.get_ofFn] using resetQueue_sound _
  · have hbay := Bay.Kept.afterReset (b := State.reset.bays.get d) (up := true)
      (by simpa [State.reset] using factoryBay_inRange)
    simpa [State.reset, Bay.afterReset, factoryBay] using hbay
  · exact River.Kept.afterReset (r := State.reset.river) factoryStation_inRange

end Sys2Proof.Machine
end

section
/-! PROOFS of the invariant, its unit layer: every operation of the Unit Controller keeps what the invariant promises of a unit
record.

What a state promises of timers, RUNREQ, trip reason and pending configuration is new in every state, and what no state changes
is the stock of the record; so a transition is judged by its stock and by the state it enters. -/

namespace Sys2Proof.Machine

/-- What every state promises alike of a unit record while the part is up: SELCMD at the commanded bay, configurations, estimate
and history in range. -/
structure UnitRec.Stock (u : UnitRec) : Prop where
  selCmd : u.selCmd = some u.commandedBay
  cfg : u.cfg.InRange
  pending : ∀ c, u.pendingCfg = some c → c.InRange
  estimate : u.estimate ≤ 12000
  history : u.history.length ≤ 6

section Unit
variable {u : UnitRec} {closed : Bool} {now : Second}

theorem UnitRec.Kept.stock (h : u.Kept true closed) : u.Stock := ⟨h.sound.selCmd, h.cfg, h.pending, h.estimate, h.history⟩

theorem loadTimer_sound (n : Nat) : (loadTimer n).sound := fun h => by cases h

theorem zero_sound : Timer.zero.sound := fun h => by cases h

/-! ### Entering a state -/

/-- A unit in OFFLINE, IDLE or TRIPPED: no RUNREQ, no timer, no pending configuration (R38, R41, R71, R83). -/
theorem UnitRec.Stock.kept_standing (h : u.Stock) (hstate : u.state = .offline ∨ u.state = .idle ∨ u.state = .tripped)
    (htrip : u.tripReason.isSome = true ↔ u.state = .tripped) (hrun : u.runReq = false) (hhold : u.runHold = .zero)
    (hrest : u.rest = .zero) (htimer : u.stateTimer = .zero) (hpending : u.pendingCfg = none) : u.Kept true closed := by
  have hduty : u.state ≠ .starting ∧ u.state ≠ .running := by rcases hstate with hs | hs | hs <;> simp [hs]
  refine ⟨?_, fun _ => hduty, h.cfg, h.pending, h.estimate, h.history⟩
  constructor <;> simp [Timer.sound, Timer.zero, h.selCmd, hduty, htrip, hrun, hhold, hrest, htimer, hpending]

/-- A unit in RESTING: no RUNREQ, no run-hold, no state timer, whatever rest and pending configuration it has. -/
theorem UnitRec.Stock.kept_resting (h : u.Stock) (hstate : u.state = .resting) (htrip : u.tripReason = none)
    (hrun : u.runReq = false) (hhold : u.runHold = .zero) (hrest : u.rest.sound) (htimer : u.stateTimer = .zero) :
    u.Kept true closed := by
  refine ⟨?_, fun _ => by simp [hstate], h.cfg, h.pending, h.estimate, h.history⟩
  constructor
  case restDue => exact hrest
  all_goals simp [Timer.sound, Timer.zero, h.selCmd, hstate, htrip, hrun, hhold, htimer]

/-- The timers, RUNREQ and trip reason of a sound unit that does not run and is in no trip (R38, R41, R71). -/
theorem UnitRec.Sound.quiet (h : u.Sound true) (hstate : u.state ≠ .starting ∧ u.state ≠ .running) :
    u.runReq = false ∧ u.runHold = .zero := by
  have hleft : u.runHold.left = 0 := Classical.not_not.1 fun hne => hstate.2 (h.runHold hne)
  refine ⟨?_, ?_⟩
  · cases hrun : u.runReq with
    | false => rfl
    | true =>
      obtain ⟨-, hs | hs⟩ := h.runReq.1 hrun
      · exact absurd hs hstate.1
      · exact absurd hs hstate.2
  · cases hdue : u.runHold.due with
    | false => exact Timer.mk.injEq .. ▸ ⟨hleft, hdue⟩
    | true => exact absurd (hleft.symm.trans (h.runHoldDue hdue)) (by decide)

theorem UnitRec.Sound.rest_zero (h : u.Sound true) (hstate : u.state ≠ .resting ∧ u.state ≠ .switching) :
    u.rest = .zero := by
  have hleft : u.rest.left = 0 := Classical.not_not.1 fun hne => (h.rest hne).elim hstate.1 hstate.2
  cases hdue : u.rest.due with
  | false => exact Timer.mk.injEq .. ▸ ⟨hleft, hdue⟩
  | true => exact absurd (hleft.symm.trans (h.restDue hdue)) (by decide)

theorem UnitRec.Sound.stateTimer_zero (h : u.Sound true)
    (hstate : u.state ≠ .starting ∧ u.state ≠ .stopping ∧ u.state ≠ .switching) : u.stateTimer = .zero := by
  obtain ⟨hstarting, hstopping, hswitching⟩ := hstate
  have hleft : u.stateTimer.left = 0 :=
    Classical.not_not.1 fun hne => (h.stateTimer hne).elim hstarting (Or.elim · hstopping hswitching)
  cases hdue : u.stateTimer.due with
  | false => exact Timer.mk.injEq .. ▸ ⟨hleft, hdue⟩
  | true => exact absurd (hleft.symm.trans (h.stateTimerDue hdue)) (by decide)

theorem UnitRec.Sound.no_trip (h : u.Sound true) (hstate : u.state ≠ .tripped) : u.tripReason = none := by
  cases htrip : u.tripReason with
  | none => rfl
  | some why => exact absurd (h.tripReason.1 (by simp [htrip])) hstate

theorem UnitRec.Sound.no_pending (h : u.Sound true) (hstate : u.state = .offline ∨ u.state = .idle ∨ u.state = .tripped) :
    u.pendingCfg = none := by
  cases hpending : u.pendingCfg with
  | none => rfl
  | some c =>
    obtain ⟨hoffline, hidle, htripped⟩ := h.pending (by simp [hpending])
    rcases hstate with hs | hs | hs <;> contradiction

/-- A configuration taken from where the record holds it. -/
theorem UnitRec.Stock.getD_inRange (h : u.Stock) : (u.pendingCfg.getD u.cfg).InRange := by
  cases hpending : u.pendingCfg with
  | none => exact h.cfg
  | some c => exact h.pending c hpending

/-! ### Lines and timers -/

/-- A new credit mark (R149). -/
theorem UnitRec.Kept.mark {up : Bool} (h : u.Kept up closed) (t : Second) :
    UnitRec.Kept up closed { u with creditMark := t } := by
  obtain ⟨hsound, hclosure, hcfg, hpending, hestimate, hhistory⟩ := h
  exact ⟨{ hsound with }, hclosure, hcfg, hpending, hestimate, hhistory⟩

/-- The input lines say nothing of their own about a unit record, nor does ATSPEED. -/
theorem UnitRec.Kept.lines {up : Bool} (h : u.Kept up closed) (avail atSpeed : Bool) (pos : Fin 4) :
    UnitRec.Kept up closed { u with avail := avail, atSpeed := atSpeed, selPos := pos } := by
  obtain ⟨hsound, hclosure, hcfg, hpending, hestimate, hhistory⟩ := h
  exact ⟨{ hsound with }, hclosure, hcfg, hpending, hestimate, hhistory⟩

theorem Timer.sound_tick {t : Timer} (h : t.sound) : t.tick.sound ∧ (t.tick.left ≠ 0 → t.left ≠ 0) := by
  unfold Timer.tick
  split
  · exact ⟨h, id⟩
  · split
    · exact ⟨fun _ => by assumption, id⟩
    · refine ⟨fun hdue => ?_, fun _ => by assumption⟩
      exact absurd (h hdue) (by assumption)

/-- A second mark counts the timers (R72). -/
theorem UnitRec.Kept.tick {up : Bool} (h : u.Kept up closed) : u.tick.Kept up closed := by
  obtain ⟨hsound, hclosure, hcfg, hpending, hestimate, hhistory⟩ := h
  obtain ⟨hhold, hholdLeft⟩ := Timer.sound_tick hsound.runHoldDue
  obtain ⟨hrest, hrestLeft⟩ := Timer.sound_tick hsound.restDue
  obtain ⟨htimer, htimerLeft⟩ := Timer.sound_tick hsound.stateTimerDue
  exact
    ⟨{ hsound with
        runHold := hsound.runHold ∘ hholdLeft, rest := hsound.rest ∘ hrestLeft
        stateTimer := hsound.stateTimer ∘ htimerLeft, runHoldDue := hhold, restDue := hrest, stateTimerDue := htimer },
      hclosure, hcfg, hpending, hestimate, hhistory⟩

theorem UnitRec.Kept.ageHistory {up : Bool} (h : u.Kept up closed) : (u.ageHistory now).Kept up closed := by
  unfold UnitRec.ageHistory
  split
  · exact h
  · rename_i t ts hist
    split
    · obtain ⟨hsound, hclosure, hcfg, hpending, hestimate, hhistory⟩ := h
      rw [hist, List.length_cons] at hhistory
      exact ⟨{ hsound with }, hclosure, hcfg, hpending, hestimate, by simpa using Nat.le_of_succ_le hhistory⟩
    · exact h

/-! ### Transitions (chapter 3) -/

/-- A trip needs the stock of the record alone (R62). -/
theorem UnitRec.Stock.trip (h : u.Stock) (why : TripReason) : (u.trip now why).unit.Kept true closed := by
  rw [UnitRec.trip_eq]
  exact UnitRec.Kept.mark (u := u.trippedBy why)
    (UnitRec.Stock.kept_standing (u := u.trippedBy why)
      ⟨h.selCmd, h.getD_inRange, by simp [UnitRec.trippedBy], h.estimate, h.history⟩
      (.inr (.inr rfl)) (by simp [UnitRec.trippedBy]) rfl rfl rfl rfl rfl) _

/-- Entering RESTING at a bay from a state without RUNREQ and run-hold (R43, R65). -/
theorem UnitRec.Stock.beginRestAt (h : u.Stock) (b : District) (hrun : u.runReq = false) (hhold : u.runHold = .zero) :
    (u.beginRestAt b).Kept true closed :=
  UnitRec.Stock.kept_resting (u := u.beginRestAt b) ⟨rfl, h.cfg, h.pending, h.estimate, h.history⟩ rfl rfl hrun hhold
    (loadTimer_sound _) rfl

/-- The departure test of a unit in OFFLINE (R43). -/
theorem UnitRec.Kept.departureTest (h : u.Kept true closed) (hstate : u.state = .offline) :
    (u.departureTest now).unit.Kept true closed := by
  obtain ⟨hrun, hhold⟩ := h.sound.quiet (by simp [hstate])
  unfold UnitRec.departureTest
  split
  · split
    · exact h.stock.beginRestAt _ hrun hhold
    · exact h.stock.trip _
  · exact h

/-- A unit that has gone OFFLINE by R44, before a pending enable is judged. -/
theorem UnitRec.Stock.outOfService (h : u.Stock) (htrip : u.tripReason = none) :
    u.outOfService.Kept true closed :=
  UnitRec.Stock.kept_standing (u := u.outOfService)
    ⟨h.selCmd, h.getD_inRange, by simp [UnitRec.outOfService], h.estimate, h.history⟩ (.inl rfl)
    (by simp [UnitRec.outOfService, htrip]) rfl rfl rfl rfl rfl

/-- What a departure from service leaves: OFFLINE, or what the departure test makes of it (R44, R84). -/
theorem UnitRec.goOffline_unit (u : UnitRec) (now : Second) :
    (u.goOffline now).unit =
      let v : UnitRec := { u.outOfService with creditMark := if u.state = .running then now else u.creditMark }
      match u.pendingCfg with
      | none => v
      | some c => if c.enable = true then (v.departureTest now).unit else v := by
  cases hp : u.pendingCfg with
  | none =>
    simp [UnitRec.goOffline, UnitRec.closeCredit_eq, UnitRec.clearTimers, UnitRec.outOfService, Timer.zero, hp]
  | some c =>
    cases he : c.enable <;>
      simp [UnitRec.goOffline, UnitRec.closeCredit_eq, UnitRec.clearTimers, UnitRec.adoptPending, UnitRec.outOfService,
        Timer.zero, hp, he]

theorem UnitRec.Stock.goOffline (h : u.Stock) (htrip : u.tripReason = none) :
    (u.goOffline now).unit.Kept true closed := by
  have hv := (h.outOfService (closed := closed) htrip).mark (if u.state = .running then now else u.creditMark)
  rw [UnitRec.goOffline_unit]
  dsimp only
  split
  · exact hv
  · split
    · exact hv.departureTest rfl
    · exact hv

/-- Entering IDLE from RESTING or SWITCHING (R56, R58, R84). -/
theorem UnitRec.Stock.beginIdle (h : u.Stock) (htrip : u.tripReason = none) (hrun : u.runReq = false) :
    (u.beginIdle now).unit.Kept true closed := by
  unfold UnitRec.beginIdle
  dsimp only
  split
  · rename_i hpending
    exact UnitRec.Stock.kept_standing ⟨h.selCmd, h.cfg, h.pending, h.estimate, h.history⟩ (.inr (.inl rfl))
      (by simp [UnitRec.clearTimers, htrip]) hrun rfl rfl rfl hpending
  · rename_i c hpending
    have hc : c.InRange := h.pending c hpending
    have hadopt : UnitRec.adoptPending { u.clearTimers with state := .idle } =
        { u.clearTimers with state := .idle, cfg := c, pendingCfg := none } := by
      simp only [UnitRec.adoptPending, hpending]
    rw [hadopt]
    have hstock : UnitRec.Stock { u.clearTimers with state := .idle, cfg := c, pendingCfg := none } :=
      ⟨h.selCmd, hc, by simp, h.estimate, h.history⟩
    split
    · exact hstock.kept_standing (.inr (.inl rfl)) (by simp [UnitRec.clearTimers, htrip]) hrun rfl rfl rfl rfl
    · exact hstock.goOffline htrip

/-- A stop (R52). -/
theorem UnitRec.Kept.stop (h : u.Kept true closed) (why : StopReason) : (u.stop now why).unit.Kept true closed := by
  rw [UnitRec.stop_eq]
  split
  · rename_i hduty
    have hstate : u.state ≠ .tripped ∧ u.state ≠ .resting ∧ u.state ≠ .switching := by
      rcases hduty with hs | hs <;> simp [hs]
    have hrest := h.sound.rest_zero hstate.2
    have htrip := h.sound.no_trip hstate.1
    refine ⟨?_, fun _ => by simp, h.cfg, h.pending, h.estimate, h.history⟩
    constructor <;> simp [Timer.sound, UnitRec.stoppedBy, hrest, htrip, Timer.zero, h.stock.selCmd]
  · exact h

/-- A start that is taken, without closure (R48, R81). -/
theorem UnitRec.Kept.start (h : u.Kept true closed) : (u.start now closed).Kept true closed := by
  unfold UnitRec.start
  split
  · rename_i hcan
    simp only [UnitRec.canStart, Bool.and_eq_true, decide_eq_true_eq, Bool.not_eq_true'] at hcan
    obtain ⟨⟨hidle, hopen⟩, hstarts⟩ := hcan
    have hrest := h.sound.rest_zero (by simp [hidle])
    have htrip := h.sound.no_trip (by simp [hidle])
    obtain ⟨-, hhold⟩ := h.sound.quiet (by simp [hidle])
    have hmax : u.cfg.maxStarts ≤ 6 := by
      obtain ⟨-, -, -, -, -, -, hmax, -⟩ := h.cfg
      exact hmax
    refine ⟨?_, by simp [hopen], h.cfg, h.pending, h.estimate, ?_⟩
    · constructor <;> simp [Timer.sound, hrest, htrip, hhold, Timer.zero, loadTimer, h.stock.selCmd]
    · simp only [List.length_append, List.length_singleton]
      omega
  · exact h

/-- The end of a switch (R58). -/
theorem UnitRec.Stock.endSwitch (h : u.Stock) (htrip : u.tripReason = none) (hrun : u.runReq = false)
    (hhold : u.runHold = .zero) (hrest : u.rest.sound) : (u.endSwitch now).unit.Kept true closed := by
  unfold UnitRec.endSwitch
  split
  · exact h.beginIdle htrip hrun
  · exact UnitRec.Stock.kept_resting ⟨h.selCmd, h.cfg, h.pending, h.estimate, h.history⟩ rfl htrip hrun hhold hrest rfl

/-- A switch (R57, R58). -/
theorem UnitRec.Kept.switch (h : u.Kept true closed) (target : District) :
    (u.switch now target).unit.Kept true closed := by
  unfold UnitRec.switch
  split
  · rename_i htaken
    simp only [Bool.and_eq_true, Bool.or_eq_true, decide_eq_true_eq] at htaken
    obtain ⟨hstate, -⟩ := htaken
    have hnot : u.state ≠ .tripped ∧ u.state ≠ .starting ∧ u.state ≠ .running := by
      rcases hstate with hs | hs <;> simp [hs]
    have htrip := h.sound.no_trip hnot.1
    obtain ⟨hrun, hhold⟩ := h.sound.quiet hnot.2
    dsimp only
    split
    · exact UnitRec.Stock.endSwitch ⟨rfl, h.cfg, h.pending, h.estimate, h.history⟩ htrip hrun hhold h.sound.restDue
    · refine ⟨?_, fun _ => by simp, h.cfg, h.pending, h.estimate, h.history⟩
      constructor
      case restDue => exact h.sound.restDue
      all_goals simp [Timer.sound, htrip, hrun, hhold, Timer.zero, loadTimer]
  · exact h

/-- The end of a stop (R53). -/
theorem UnitRec.Kept.endStop (h : u.Kept true closed) (hstate : u.state = .stopping) :
    (u.endStop now).unit.Kept true closed := by
  have htrip := h.sound.no_trip (by simp [hstate])
  obtain ⟨hrun, hhold⟩ := h.sound.quiet (by simp [hstate])
  unfold UnitRec.endStop
  split
  · split
    · exact UnitRec.Stock.kept_resting ⟨h.stock.selCmd, h.cfg, h.pending, h.estimate, h.history⟩ rfl rfl hrun hhold
        (loadTimer_sound _) rfl
    · exact h.stock.trip _
  · exact h.stock.goOffline htrip

/-! ### Line changes -/

theorem UnitRec.Kept.availRise (h : u.Kept true closed) : (u.availRise now).unit.Kept true closed := by
  have hv : UnitRec.Kept true closed { u with avail := true } := h.lines true u.atSpeed u.selPos
  unfold UnitRec.availRise
  dsimp only
  split
  case h_1 hstate => exact hv.departureTest hstate
  all_goals exact hv

theorem UnitRec.Kept.availFall (h : u.Kept true closed) : (u.availFall now).unit.Kept true closed := by
  have hv : UnitRec.Kept true closed { u with avail := false } := h.lines false u.atSpeed u.selPos
  have hleaves (hstate : u.state ≠ .tripped) :
      (UnitRec.goOffline { u with avail := false } now).unit.Kept true closed :=
    hv.stock.goOffline (h.sound.no_trip hstate)
  unfold UnitRec.availFall
  dsimp only
  split
  case h_6 | h_7 | h_8 => exact hv
  all_goals exact hleaves (by simp [*])

theorem UnitRec.Kept.atSpeedRise (h : u.Kept true closed) : (u.atSpeedRise now).unit.Kept true closed := by
  have hv : UnitRec.Kept true closed { u with atSpeed := true } := h.lines u.avail true u.selPos
  unfold UnitRec.atSpeedRise
  dsimp only
  split
  case h_1 hstate =>
    have htrip := h.sound.no_trip (by simp [hstate])
    have hrest := h.sound.rest_zero (by simp [hstate])
    have hrun := h.sound.runReq.2 ⟨rfl, .inl hstate⟩
    refine ⟨?_, fun hc => absurd hstate (h.closure hc).1, h.cfg, h.pending, h.estimate, h.history⟩
    constructor <;> simp [Timer.sound, htrip, hrest, hrun, Timer.zero, loadTimer, h.stock.selCmd]
  case h_2 | h_3 | h_4 => exact hv.stock.trip _
  all_goals exact hv

theorem UnitRec.Kept.atSpeedFall (h : u.Kept true closed) : (u.atSpeedFall now).unit.Kept true closed := by
  have hv : UnitRec.Kept true closed { u with atSpeed := false } := h.lines u.avail false u.selPos
  unfold UnitRec.atSpeedFall
  dsimp only
  split
  case h_1 => exact hv.stock.trip _
  case h_2 hstate => exact hv.endStop hstate
  case h_3 hstate => exact hv.departureTest hstate
  all_goals exact hv

theorem UnitRec.Kept.supervise (h : u.Kept true closed) : (u.supervise now).unit.Kept true closed := by
  unfold UnitRec.supervise
  split
  · exact h
  · exact h.stock.trip _

theorem UnitRec.Kept.selPosChange (h : u.Kept true closed) (pos : Fin 4) :
    (u.selPosChange now pos).unit.Kept true closed := by
  have hv : UnitRec.Kept true closed { u with selPos := pos } := h.lines u.avail u.atSpeed pos
  unfold UnitRec.selPosChange
  dsimp only
  split
  case h_1 hstate => exact hv.departureTest hstate
  case h_2 hstate =>
    split
    · obtain ⟨hrun, hhold⟩ := h.sound.quiet (by simp [hstate])
      exact hv.stock.endSwitch (h.sound.no_trip (by simp [hstate])) hrun hhold h.sound.restDue
    · exact hv
  case h_3 => exact hv
  all_goals exact hv.supervise

/-! ### Expiries (R72) -/

theorem UnitRec.Kept.runHoldExpiry (h : u.Kept true closed) : u.runHoldExpiry.unit.Kept true closed := by
  unfold UnitRec.runHoldExpiry
  split
  · exact ⟨{ h.sound with runHold := fun hne => absurd rfl hne, runHoldDue := zero_sound }, h.closure, h.cfg, h.pending,
      h.estimate, h.history⟩
  · exact h

theorem UnitRec.Kept.restExpiry (h : u.Kept true closed) : (u.restExpiry now).unit.Kept true closed := by
  have hv : UnitRec.Kept true closed { u with rest := .zero } :=
    ⟨{ h.sound with rest := fun hne => absurd rfl hne, restDue := zero_sound }, h.closure, h.cfg, h.pending, h.estimate,
      h.history⟩
  unfold UnitRec.restExpiry
  dsimp only
  split
  · split
    · rename_i hstate
      exact hv.stock.beginIdle (h.sound.no_trip (by simp [hstate])) (h.sound.quiet (by simp [hstate])).1
    · exact hv
  · exact h

theorem UnitRec.Kept.startTimeoutExpiry (h : u.Kept true closed) : (u.startTimeoutExpiry now).unit.Kept true closed := by
  unfold UnitRec.startTimeoutExpiry
  split
  · exact h.stock.trip _
  · exact h

theorem UnitRec.Kept.stopTimeoutExpiry (h : u.Kept true closed) : (u.stopTimeoutExpiry now).unit.Kept true closed := by
  unfold UnitRec.stopTimeoutExpiry
  split
  · rename_i hdue
    simp only [Bool.and_eq_true, decide_eq_true_eq] at hdue
    split
    · exact h.stock.trip _
    · exact h.endStop hdue.2
  · exact h

theorem UnitRec.Kept.travelTimeoutExpiry (h : u.Kept true closed) :
    (u.travelTimeoutExpiry now).unit.Kept true closed := by
  unfold UnitRec.travelTimeoutExpiry
  split
  · exact h.stock.trip _
  · exact h

/-! ### Commands and configuration -/

/-- A new estimate in range (R33). -/
theorem UnitRec.Kept.takeEstimate (h : u.Kept true closed) {q : Nat} (hq : q ≤ 12000) :
    (u.takeEstimate now q).unit.Kept true closed := by
  rw [UnitRec.takeEstimate_eq]
  exact ⟨{ h.sound with }, h.closure, h.cfg, h.pending, hq, h.history⟩

/-- Who cleared a unit says nothing else of it. -/
theorem UnitRec.Kept.cleared {up : Bool} (h : u.Kept up closed) (p : PortId) :
    UnitRec.Kept up closed { u with clearedBy := some p } :=
  ⟨{ h.sound with }, h.closure, h.cfg, h.pending, h.estimate, h.history⟩

theorem UnitRec.Kept.clearTrip (h : u.Kept true closed) (p : PortId) : (u.clearTrip p).1.Kept true closed := by
  unfold UnitRec.clearTrip
  split
  · rename_i hstate
    obtain ⟨hrun, hhold⟩ := h.sound.quiet (by simp [hstate])
    split
    · exact h
    · split
      · exact h
      · split
        · exact (h.stock.beginRestAt _ hrun hhold).cleared p
        · exact UnitRec.Kept.cleared
            (UnitRec.Stock.kept_standing (u := { u with state := .offline, tripReason := none })
              ⟨h.stock.selCmd, h.cfg, h.pending, h.estimate, h.history⟩ (.inl rfl) (by simp) hrun hhold
              (h.sound.rest_zero (by simp [hstate])) (h.sound.stateTimer_zero (by simp [hstate]))
              (h.sound.no_pending (by simp [hstate]))) p
  · exact h

theorem UnitRec.Kept.configure (h : u.Kept true closed) {c : UnitConfig} (hc : c.InRange) :
    (u.configure now c).unit.Kept true closed := by
  have hforce : UnitRec.Kept true closed { u with cfg := c } :=
    ⟨{ h.sound with }, h.closure, hc, h.pending, h.estimate, h.history⟩
  have hwait (hbusy : u.state ≠ .offline ∧ u.state ≠ .idle ∧ u.state ≠ .tripped) :
      UnitRec.Kept true closed { u with pendingCfg := some c } :=
    ⟨{ h.sound with pending := fun _ => hbusy }, h.closure, h.cfg, by rintro _ ⟨⟩; exact hc, h.estimate, h.history⟩
  unfold UnitRec.configure
  dsimp only
  split
  case h_1 hstate =>
    split
    · exact hforce.departureTest hstate
    · exact hforce
  case h_2 hstate =>
    split
    · exact hforce
    · exact hforce.stock.goOffline (h.sound.no_trip (by simp [hstate]))
  case h_3 => exact hforce
  all_goals exact hwait (by simp [*])

end Unit

end Sys2Proof.Machine
end

section
/-! PROOFS of the invariant, its water layer: the level used and LOW_SUCTION in the words of the claims (R7, R8, R15), and what
the events of a bay, of the river and of a queue keep of their records. -/

namespace Sys2Proof.Machine

/-! ### Level used and LOW_SUCTION (R7, R8, R15) -/

/-- The level used by R8, by the age of the report. -/
def levelUsedOf (reported : Option Int) (age : Nat) (high : Bool) (floatLevel : Int) : Int :=
  match reported with
  | none => floatLevel
  | some l => if 300 ≤ age then floatLevel else if high = true then max l floatLevel else l

/-- LOW_SUCTION by R15: clear under a high float or at floor + 100 and above, set below the floor, between them as it was. -/
def lowSuctionOf (high : Bool) (used floor : Int) (before : Bool) : Bool :=
  if high = true then false else if used < floor then true else if used < floor + 100 then before else false

theorem Bay.levelByR8_eq (b : Bay) : b.levelByR8 = levelUsedOf b.reported b.age b.floatInput b.cfg.floatLevel := by
  cases hreport : b.reported with
  | none => simp [Bay.levelByR8, levelUsedOf, hreport]
  | some l =>
    by_cases hunknown : 300 ≤ b.age
    · have hstale : ¬b.age < 60 := by omega
      simp [Bay.levelByR8, Bay.freshness, freshnessOf, levelUsedOf, hreport, hunknown, hstale, Nat.not_lt.2 hunknown]
    · by_cases hfresh : b.age < 60 <;>
        simp [Bay.levelByR8, Bay.freshness, freshnessOf, levelUsedOf, hreport, hunknown, hfresh, Nat.lt_of_not_le hunknown]

theorem Bay.lowSuctionByR15_eq (b : Bay) :
    b.lowSuctionByR15 = lowSuctionOf b.floatInput b.levelUsed b.cfg.floor b.lowSuction := by
  unfold Bay.lowSuctionByR15 lowSuctionOf
  split <;> simp

/-- Everything a recomputation does: level used, LOW_SUCTION, and the notice and request of its change (R9, R16). -/
theorem Bay.recompute_eq (b : Bay) :
    b.recompute =
      let used := levelUsedOf b.reported b.age b.floatInput b.cfg.floatLevel
      let low := lowSuctionOf b.floatInput used b.cfg.floor b.lowSuction
      { bay := { b with levelUsed := used, lowSuction := low }
        postSuction := low && !b.lowSuction, request := low != b.lowSuction } := by
  simp only [Bay.recompute, Bay.levelByR8_eq, Bay.lowSuctionByR15_eq]

/-! ### Bays -/

section Bay
variable {b : Bay} {up : Bool}

/-- What a recomputation needs to find: the age of an absent report, and float demand as R11 and R12 have it. -/
structure Bay.Demanded (b : Bay) : Prop where
  age : b.reported = none → b.age = 0
  demand : b.floatInput = true → b.floatDemand = true
  selfClearing : b.cfg.floatMode = .selfClearing → b.floatInput = false → b.floatDemand = false

theorem Bay.Demanded.recompute (h : b.Demanded) (hcfg : b.cfg.InRange) : b.recompute.bay.Kept true := by
  rw [Bay.recompute_eq]
  refine ⟨fun _ => ?_, hcfg⟩
  refine { age := h.age, levelUsed := rfl, suctionClear := fun hclear => ?_, suctionSet := fun hlow hused => ?_,
           demand := h.demand, selfClearing := h.selfClearing }
  · dsimp only at hclear ⊢
    unfold lowSuctionOf
    split
    · rfl
    · rename_i hfloat
      have hhigh := hclear.resolve_left hfloat
      rw [if_neg (by omega), if_neg (by omega)]
  · dsimp only at hlow hused ⊢
    rw [lowSuctionOf, if_neg (by simp [hlow]), if_pos hused]

theorem Bay.Kept.report (h : b.Kept true) (level : Int) : (b.report level).bay.Kept true :=
  Bay.Demanded.recompute (b := { b with reported := some level, age := 0 })
    ⟨nofun, (h.sound rfl).demand, (h.sound rfl).selfClearing⟩ h.cfg

theorem Bay.Kept.floatRise (h : b.Kept true) : b.floatRise.bay.Kept true := by
  have hdemand : b.demandAfterRise.1 = true := by
    unfold Bay.demandAfterRise
    cases b.cfg.floatMode <;> rfl
  exact Bay.Demanded.recompute (b := { b with floatInput := true, floatDemand := b.demandAfterRise.1 })
    ⟨(h.sound rfl).age, fun _ => hdemand, fun _ => nofun⟩ h.cfg

theorem Bay.Kept.floatFall (h : b.Kept true) : b.floatFall.bay.Kept true := by
  unfold Bay.floatFall
  split
  · exact Bay.Demanded.recompute (b := { b with floatInput := false, floatDemand := false })
      ⟨(h.sound rfl).age, nofun, fun _ _ => rfl⟩ h.cfg
  · rename_i hmode
    exact Bay.Demanded.recompute (b := { b with floatInput := false })
      ⟨(h.sound rfl).age, nofun, fun hself => by simp [hmode] at hself⟩ h.cfg

theorem Bay.Kept.acknowledge (h : b.Kept true) : b.acknowledge.1.Kept true := by
  unfold Bay.acknowledge
  split
  · split
    · rename_i hack
      simp only [Bool.and_eq_true, Bool.not_eq_true'] at hack
      obtain ⟨hlow, -⟩ := hack
      exact ⟨fun _ => { h.sound rfl with demand := fun hhigh => by simp [hlow] at hhigh, selfClearing := fun _ _ => rfl },
        h.cfg⟩
    · exact h
  · exact h

/-- A bay configuration in range takes effect (R17). -/
theorem Bay.Kept.configure (h : b.Kept true) {c : BayConfig} (hc : c.InRange) : (b.configure c).bay.Kept true := by
  have hs := h.sound rfl
  have hdemanded : Bay.Demanded
      { b with
        cfg := c
        floatDemand := b.floatDemand && !(b.cfg.floatMode = .latched && c.floatMode = .selfClearing && b.floatDemand
          && !b.floatInput) } := by
    refine ⟨hs.age, fun hhigh => ?_, fun hself hlow => ?_⟩
    · simp only at hhigh
      simp [hhigh, hs.demand hhigh]
    · dsimp only at hself hlow ⊢
      cases hmode : b.cfg.floatMode with
      | selfClearing => simp [hs.selfClearing hmode hlow]
      | latched => simp [hself, hlow]
  unfold Bay.configure
  dsimp only
  split
  · rename_i hsame
    simp only [Bool.and_eq_true, decide_eq_true_eq] at hsame
    obtain ⟨⟨hfloor, hlevel⟩, -⟩ := hsame
    refine ⟨fun _ => ?_, hc⟩
    exact
      { age := hs.age
        levelUsed := by simpa only [hlevel] using hs.levelUsed
        suctionClear := by simpa only [hfloor] using hs.suctionClear
        suctionSet := by simpa only [hfloor] using hs.suctionSet
        demand := hdemanded.demand
        selfClearing := hdemanded.selfClearing }
  · exact hdemanded.recompute hc

/-- Ageing that leaves the report on one side of 300 s leaves a sound bay sound. -/
theorem Bay.Sound.aged (h : b.Sound) {n : Nat} (due : Bool) (hreport : b.reported ≠ none) (hn : 300 ≤ n ↔ 300 ≤ b.age) :
    Bay.Sound { b with age := n, ageDue := due } := by
  obtain ⟨-, hlevel, hclear, hset, hdemand, hself⟩ := h
  exact ⟨fun hnone => absurd hnone hreport, by simpa only [hn] using hlevel, hclear, hset, hdemand, hself⟩

theorem nextAge_unknown_iff {n : Nat} (h : fallAge (n + 1) = false) : 300 ≤ nextAge n ↔ 300 ≤ n := by
  simp only [fallAge, Bool.or_eq_false_iff, decide_eq_false_iff_not] at h
  unfold nextAge
  omega

/-- The model's own due flag says nothing of a bay. -/
theorem Bay.Sound.due (h : b.Sound) (due : Bool) : Bay.Sound { b with ageDue := due } := { h with }

theorem Bay.Kept.tick (h : b.Kept up) : b.tick.Kept up := by
  unfold Bay.tick
  split
  · exact h
  · rename_i hreport
    split
    · exact ⟨fun hup => (h.sound hup).due true, h.cfg⟩
    · rename_i hfall
      exact ⟨fun hup => (h.sound hup).aged b.ageDue (by simpa using hreport) (nextAge_unknown_iff (by simpa using hfall)),
        h.cfg⟩

theorem Bay.Kept.takeAgeing (h : b.Kept true) : b.takeAgeing.1.bay.Kept true := by
  have hs := h.sound rfl
  unfold Bay.takeAgeing
  split
  · exact h
  · split
    · exact ⟨fun _ => hs.due false, h.cfg⟩
    · rename_i hreport
      have hreport' : b.reported ≠ none := by simpa using hreport
      dsimp only
      split
      · exact Bay.Demanded.recompute (b := { b with age := nextAge b.age, ageDue := false })
          ⟨fun hnone => absurd hnone hreport', hs.demand, hs.selfClearing⟩ h.cfg
      · rename_i hfall
        refine ⟨fun _ => hs.aged false hreport' ?_, h.cfg⟩
        have hneither : ¬(nextAge b.age = 60 ∨ nextAge b.age = 300) := by simpa [fallAge] using hfall
        unfold nextAge at hneither ⊢
        omega

end Bay

/-! ### The river -/

section River
variable {r : River} {up : Bool}

theorem River.Kept.report (h : r.Kept up) (v : Int) : (r.report v).Kept up :=
  ⟨fun hup => { h.sound hup with stageAge := nofun }, h.cap⟩

theorem River.Kept.tickStage (h : r.Kept up) : r.tickStage.Kept up := by
  unfold River.tickStage
  split
  · exact h
  · rename_i hstage
    split
    · exact ⟨fun hup => { h.sound hup with }, h.cap⟩
    · exact ⟨fun hup => { h.sound hup with stageAge := fun hnone => absurd (Option.isNone_iff_eq_none.2 hnone) hstage },
        h.cap⟩

theorem River.Kept.takeStageAgeing (h : r.Kept up) : r.takeStageAgeing.1.Kept up := by
  unfold River.takeStageAgeing
  split
  · exact h
  · split
    · exact ⟨fun hup => { h.sound hup with }, h.cap⟩
    · rename_i hstage
      exact ⟨fun hup => { h.sound hup with stageAge := fun hnone => absurd (Option.isNone_iff_eq_none.2 hnone) hstage },
        h.cap⟩

/-- A silence that brings no judging of R113 leaves the status in its range. -/
theorem River.Sound.silent (h : r.Sound) (due : Bool) (h720 : nextAge r.silence ≠ 720)
    (h120 : ¬(nextAge r.silence = 120 ∧ r.capStatus = .live)) :
    River.Sound { r with silence := nextAge r.silence, silenceDue := due } := by
  obtain ⟨hstage, hlive, hheld, hage, hsettled⟩ := h
  unfold nextAge at h720 h120
  refine ⟨hstage, fun hs => ?_, fun hs => ?_, hage, hsettled⟩
  · have hlt := hlive hs
    have hne : min 65535 (r.silence + 1) ≠ 120 := fun hn => h120 ⟨hn, hs⟩
    simp only [nextAge]
    omega
  · have hlt := hheld hs
    simp only [nextAge]
    omega

theorem River.Kept.tickSilence (h : r.Kept up) : r.tickSilence.Kept up := by
  unfold River.tickSilence
  split
  · exact ⟨fun hup => { h.sound hup with }, h.cap⟩
  · rename_i hjudge
    simp only [River.judged, Bool.not_eq_true, Bool.or_eq_false_iff, Bool.and_eq_false_iff, decide_eq_false_iff_not] at hjudge
    obtain ⟨h120, h720⟩ := hjudge
    refine ⟨fun hup => (h.sound hup).silent _ (by unfold nextAge; omega) fun hheld => ?_, h.cap⟩
    obtain ⟨hage, hlive⟩ := hheld
    refine h120.elim (fun hne => hne ?_) fun hne => hne hlive
    unfold nextAge at hage
    omega

theorem River.Kept.tickProfile (h : r.Kept up) : r.tickProfile.Kept up := by
  unfold River.tickProfile
  split
  · exact ⟨fun hup => { h.sound hup with pselAge := Nat.zero_le 1, pselSettled := fun _ => rfl }, h.cap⟩
  · rename_i hseen
    split
    · exact ⟨fun hup => { h.sound hup with }, h.cap⟩
    · exact ⟨fun hup => { h.sound hup with pselAge := by dsimp only; omega, pselSettled := fun hs => absurd hs hseen },
        h.cap⟩

theorem River.Kept.takeProfile (h : r.Kept up) : r.takeProfile.1.Kept up := by
  unfold River.takeProfile
  split
  · exact h
  · split
    · exact ⟨fun hup => { h.sound hup with pselAge := Nat.zero_le 1, pselSettled := fun _ => rfl }, h.cap⟩
    · rename_i hseen
      split
      · exact ⟨fun hup => { h.sound hup with pselAge := Nat.zero_le 1, pselSettled := fun _ => rfl }, h.cap⟩
      · exact ⟨fun hup => { h.sound hup with pselAge := by dsimp only; omega, pselSettled := fun hs => absurd hs hseen },
          h.cap⟩

theorem River.Kept.pselChange (h : r.Kept up) (code : Fin 4) : (r.pselChange code).Kept up :=
  ⟨fun hup => { h.sound hup with pselAge := Nat.zero_le 1, pselSettled := fun _ => rfl }, h.cap⟩

/-- A LIVE status over a silence that has just been restarted (R112, R114). -/
theorem River.Kept.heard (h : r.Kept up) : River.Kept up { r with silence := 0, capStatus := .live } :=
  ⟨fun hup => { h.sound hup with live := fun _ => by simp, held := nofun }, h.cap⟩

end River

/-! ### Queues -/

section Queue
variable {q : OrderQueue} {closed closed' : Bool} {now : Second}

/-- Closure came into force or ended: the head follows (R99). -/
theorem OrderQueue.Sound.settle (h : q.Sound closed) :
    OrderQueue.Sound closed' { q with orders := settleHead closed' q.orders } := by
  obtain ⟨hsettled, hlist, hunordered, hpumped⟩ := OrderQueue.sound_iff.1 h
  refine OrderQueue.sound_iff.2
    ⟨⟨settleHead_settleHead, fun hnil => ?_, hsettled.completions⟩, hlist.settleHead, hunordered, hpumped⟩
  refine hsettled.gate ?_
  cases horders : q.orders with
  | nil => rfl
  | cons o os => simp [horders, settleHead] at hnil

/-- A finish over a serviceable list whose head is settled (R94). -/
theorem OrderQueue.Sound.finish (h : q.Sound closed) {os : List Order} (records : List Completion) (hos : Serviceable os)
    (hhead : settleHead closed os = os) : (q.finish os records).queue.Sound closed := by
  obtain ⟨hsettled, -, hunordered, hpumped⟩ := OrderQueue.sound_iff.1 h
  rw [OrderQueue.finish_eq _ _ _ hsettled.completions]
  refine OrderQueue.sound_iff.2 ⟨⟨hhead, fun hnil => ?_, ?_⟩, hos, hunordered, hpumped⟩
  · dsimp only at hnil ⊢
    simp [hnil]
  · simp only [List.length_drop, List.length_append]
    omega

/-- Orders leave by cancelling or at a deadline (R94, R96, R97). -/
theorem OrderQueue.Sound.leave (h : q.Sound closed) (k : FinishKind) (gone : Order → Bool) :
    (q.leave closed now k gone).queue.Sound closed := by
  obtain ⟨hsettled, hlist, -, -⟩ := OrderQueue.sound_iff.1 h
  have hstay : Serviceable (q.orders.filter fun o => !gone o) := hlist.sublist List.filter_sublist
  unfold OrderQueue.leave
  dsimp only
  split
  · exact h
  · cases horders : q.orders with
    | nil => exact h.finish _ Serviceable.nil rfl
    | cons o os =>
      rw [horders] at hstay
      dsimp only
      split
      · exact h.finish _ hstay.settleHead settleHead_settleHead
      · rename_i hfirst
        refine h.finish _ hstay ?_
        have hhead := hsettled.head
        rw [horders] at hhead
        have hstate : headState closed = o.state := congrArg Order.state (List.cons.inj hhead).1
        simp [hfirst, settleHead, hstate]

theorem OrderQueue.Sound.removeRead (h : q.Sound closed) (returned shifted : Nat) :
    (q.removeRead returned shifted).Sound closed :=
  { h with completions := Nat.le_trans (by simp [OrderQueue.removeRead]) h.completions }

theorem volumeOf_inRange {volume : BitVec 32} (h : ¬volume.toNat < 1000) :
    1000 ≤ volumeOf volume ∧ volumeOf volume ≤ 2000000000 := by
  unfold volumeOf
  omega

theorem deadlineOf_inRange {deadline : BitVec 32} {n : Nat} (h : deadlineOf deadline = some n) : 60 ≤ n ∧ n ≤ 604800 := by
  unfold deadlineOf clampNat at h
  split at h
  · cases h
  · cases h
    omega

/-- A POST ORDER taken or refused (R91, R92). -/
theorem OrderQueue.Sound.takePost (h : q.Sound closed) (tag urgency : Byte) (volume deadline : BitVec 32) :
    (q.takePost closed now tag urgency volume deadline).1.Sound closed := by
  by_cases hbad : PostIsBad tag urgency volume
  · rw [takePost_bad hbad]
    exact h
  rcases Nat.lt_or_ge q.orders.length 8 with hroom | hfull
  · by_cases hused : ∃ o ∈ q.orders, o.tag = tag
    · rw [takePost_used hbad hroom hused]
      exact h
    · rw [takePost_posts hbad hroom hused, OrderQueue.post_eq]
      simp only [PostIsBad, not_or] at hbad
      obtain ⟨htag, -, hvolume⟩ := hbad
      obtain ⟨hlow, hhigh⟩ := volumeOf_inRange hvolume
      obtain ⟨hsettled, hlist, hunordered, hpumped⟩ := OrderQueue.sound_iff.1 h
      refine OrderQueue.sound_iff.2 ⟨⟨?_, fun hnil => by simp at hnil, hsettled.completions⟩, ?_, hunordered, hpumped⟩
      · cases horders : q.orders with
        | nil => simp [settleHead]
        | cons o os =>
          have hhead := hsettled.head
          rw [horders] at hhead
          have hstate : headState closed = o.state := congrArg Order.state (List.cons.inj hhead).1
          simp [settleHead, hstate]
      · refine ⟨by rw [List.length_append]; exact hroom, ?_, fun o ho => ?_, fun o ho => ?_⟩
        · simp only [List.map_append, List.map_cons, List.map_nil]
          refine List.nodup_append.2 ⟨hlist.tags, by simp, ?_⟩
          rintro a ha b hb rfl
          obtain ⟨o, ho, rfl⟩ := List.mem_map.1 ha
          exact hused ⟨o, ho, List.mem_singleton.1 hb⟩
        · rcases List.mem_append.1 ho with hmem | hmem
          · exact hlist.inRange o hmem
          · rw [List.mem_singleton.1 hmem]
            have hone : 1 ≤ volumeOf volume := Nat.le_trans (by decide) hlow
            exact ⟨htag, ⟨hlow, hhigh⟩, ⟨hone, Nat.le_refl _⟩, fun n hn => deadlineOf_inRange hn⟩
        · cases horders : q.orders with
          | nil => simp [horders] at ho
          | cons x xs =>
            simp only [horders, List.cons_append, List.tail_cons, List.mem_append, List.mem_singleton] at ho
            rcases ho with hmem | hmem
            · exact hlist.waiting o (by rw [horders]; exact hmem)
            · rw [hmem]
              exact ⟨by simp, rfl⟩
  · rw [takePost_full hbad hfull]
    exact h

/-- An urgency replaced (R98). -/
theorem OrderQueue.Sound.setUrgency (h : q.Sound closed) (tag : Byte) (u : Urgency) :
    (q.setUrgency tag u).Sound closed := by
  obtain ⟨hsettled, hlist, hunordered, hpumped⟩ := OrderQueue.sound_iff.1 h
  have hcases (o : Order) : (if o.tag = tag then { o with urgency := u } else o) =
      { o with urgency := if o.tag = tag then u else o.urgency } := by split <;> rfl
  have hurgency : q.setUrgency tag u =
      { q with orders := q.orders.map fun o => { o with urgency := if o.tag = tag then u else o.urgency } } := by
    simp only [OrderQueue.setUrgency, hcases]
  rw [hurgency]
  refine OrderQueue.sound_iff.2
    ⟨⟨?_, fun hnil => hsettled.gate (List.map_eq_nil_iff.1 hnil), hsettled.completions⟩, ?_, hunordered, hpumped⟩
  · cases horders : q.orders with
    | nil => rfl
    | cons o os =>
      have hhead := hsettled.head
      rw [horders] at hhead
      have hstate : headState closed = o.state := congrArg Order.state (List.cons.inj hhead).1
      simp [settleHead, hstate]
  · refine ⟨by simpa using hlist.length, ?_, ?_, ?_⟩
    · simpa [List.map_map, Function.comp_def] using hlist.tags
    · rw [List.forall_mem_map]
      intro o ho
      have hr := hlist.inRange o ho
      exact ⟨hr.tag, hr.posted, hr.remaining, hr.deadline⟩
    · rw [← List.map_tail, List.forall_mem_map]
      exact hlist.waiting

/-- The gate may open on a list with an order only (R100, R101). -/
theorem OrderQueue.Sound.setGate (h : q.Sound closed) {g : Bool} (hg : q.orders = [] → g = false) :
    OrderQueue.Sound closed { q with gateOpen := g } := { h with gate := hg }

end Queue

end Sys2Proof.Machine
end

section
/-! PROOFS of the invariant, its layer of the part: the operations of the blocks on a part that is up, the evaluation, the
configuration and the resets. -/

namespace Sys2Proof.Machine

/-! ### Guards and folds -/

section Ops
variable {s : State} {stopped closed : Bool}

theorem State.Meets.onlyIf {up : Bool} (h : s.Meets up stopped closed) {c : Bool} {f : State → State}
    (hf : s.Meets up stopped closed → (f s).Meets up stopped closed) : (s.onlyIf c f).Meets up stopped closed := by
  cases c
  · exact h
  · exact hf h

/-- One operation after another. -/
theorem State.Meets.foldl {ι : Type} {up : Bool} {f : State → ι → State}
    (hf : ∀ s i, s.Meets up stopped closed → (f s i).Meets up stopped closed) (l : List ι)
    (h : s.Meets up stopped closed) : (l.foldl f s).Meets up stopped closed := by
  induction l generalizing s with
  | nil => exact h
  | cons i l ih => exact ih (hf s i h)

/-! ### Notices and requests -/

theorem State.Meets.postAll (h : s.Meets true stopped closed) (k : NoticeKind) :
    (s.postAll k).Meets true stopped closed :=
  { h with notices := fun p => by simpa using NoticePort.post_sound _ k }

theorem State.Meets.postTo (h : s.Meets true stopped closed) (p : PortId) (k : NoticeKind) :
    (s.postTo p k).Meets true stopped closed := h.setNotice (NoticePort.post_sound _ k)

theorem State.Meets.withdraw (h : s.Meets true stopped closed) (p : PortId) (k : NoticeKind) :
    (s.withdraw p k).Meets true stopped closed := h.setNotice (NoticePort.remove_sound _ _)

theorem State.Meets.requestEvaluation {up : Bool} (h : s.Meets up stopped closed) :
    s.requestEvaluation.Meets up stopped closed := h.setDisp

/-! ### Events of a bay, a queue and a unit -/

theorem State.Meets.applyBay (h : s.Meets true stopped closed) (d : District) {e : BayEffect} (he : e.bay.Kept true) :
    (s.applyBay d e).Meets true stopped closed :=
  ((h.setBay he).onlyIf fun h => h.postTo _ _).onlyIf fun h => h.requestEvaluation

theorem State.Meets.withdrawFloatRise (h : s.Meets true stopped closed) (d : District) :
    (s.withdrawFloatRise d).Meets true stopped closed := (h.withdraw _ _).onlyIf fun h => h.withdraw _ _

theorem State.Meets.floatRise (h : s.Meets true stopped closed) (d : District) :
    (s.floatRise d).Meets true stopped closed := ((h.applyBay d (h.bays d).floatRise).postTo _ _).postTo _ _

theorem State.Meets.floatFall (h : s.Meets true stopped closed) (d : District) :
    (s.floatFall d).Meets true stopped closed := by
  unfold State.floatFall
  exact (h.applyBay d (h.bays d).floatFall).onlyIf fun h => h.withdrawFloatRise d

theorem State.Meets.configureBay (h : s.Meets true stopped closed) (d : District) {c : BayConfig} (hc : c.InRange) :
    (s.configureBay d c).Meets true stopped closed := by
  unfold State.configureBay
  exact (h.applyBay d ((h.bays d).configure hc)).onlyIf fun h => h.withdrawFloatRise d

theorem State.Meets.ageBay (h : s.Meets true stopped closed) (d : District) :
    (s.ageBay d).Meets true stopped closed := by
  unfold State.ageBay
  exact (h.applyBay d (h.bays d).takeAgeing).onlyIf fun h => h.postTo _ _

theorem State.Meets.applyQueue (h : s.Meets true stopped closed) (d : District) {e : QueueEffect}
    (he : e.queue.Sound closed) : (s.applyQueue d e).Meets true stopped closed :=
  ((h.setQueue he).onlyIf fun h => h.postTo _ _).onlyIf fun h => h.postTo _ _

theorem State.Meets.sendCredit (h : s.Meets true stopped closed) (c : Option (District × Nat)) :
    (s.sendCredit c).Meets true stopped closed := by
  cases c with
  | none => exact h
  | some c => exact h.applyQueue _ (h.closure ▸ (h.queues c.1).credit)

theorem State.Meets.cutQueue (h : s.Meets true stopped closed) (d : District) :
    (s.cutQueue d).Meets true stopped closed := h.applyQueue d (h.closure ▸ (h.queues d).leave _ _)

theorem State.Meets.applyUnit (h : s.Meets true stopped closed) (i : UnitId) {e : UnitEffect}
    (he : e.unit.Kept true stopped) : (s.applyUnit i e).Meets true stopped closed :=
  (((h.setUnit he).sendCredit _).onlyIf fun h => h.postAll _).onlyIf fun h => (h.postAll _).requestEvaluation

theorem State.Meets.stopUnit (h : s.Meets true stopped closed) (why : StopReason) (i : UnitId) :
    (s.stopUnit why i).Meets true stopped closed := h.applyUnit i ((h.units i).stop why)

theorem State.Meets.onUnit (h : s.Meets true stopped closed) (i : UnitId) {f : UnitRec → UnitEffect}
    (hf : ∀ {u : UnitRec}, u.Kept true stopped → (f u).unit.Kept true stopped) :
    (s.onUnit i f).Meets true stopped closed := h.applyUnit i (hf (h.units i))

/-! ### The river -/

theorem State.Meets.ageStage (h : s.Meets true stopped closed) : s.ageStage.Meets true stopped closed := by
  have hclosure : s.river.takeStageAgeing.1.closure = s.river.closure := by
    unfold River.takeStageAgeing
    split
    · rfl
    · split <;> rfl
  unfold State.ageStage
  exact (h.setRiver h.river.takeStageAgeing hclosure).onlyIf fun h => h.postTo _ _

theorem State.Meets.filterProfile (h : s.Meets true stopped closed) : s.filterProfile.Meets true stopped closed := by
  have hclosure : s.river.takeProfile.1.closure = s.river.closure := by
    unfold River.takeProfile
    split
    · rfl
    · split
      · rfl
      · split <;> rfl
  unfold State.filterProfile
  exact (h.setRiver h.river.takeProfile hclosure).onlyIf fun h => h.requestEvaluation

theorem State.Meets.hear (h : s.Meets true stopped closed) (p : PortId) : (s.hear p).Meets true stopped closed :=
  h.onlyIf fun h => (h.setRiver h.river.heard rfl).onlyIf fun h => h.postAll _

theorem State.Meets.setCap (h : s.Meets true stopped closed) {v : Nat} (hv : v ≤ 60000)
    (hsilence : s.river.silence < 120) : (s.setCap v).Meets true stopped closed := by
  have hriver : River.Kept true { s.river with cap := v, capStatus := .live } :=
    ⟨fun hup => { h.river.sound hup with live := fun _ => hsilence, held := nofun }, hv⟩
  exact ((h.setRiver hriver rfl).postAll _).requestEvaluation

theorem State.Meets.configureStation (h : s.Meets true stopped closed) {c : StationConfig} (hc : c.InRange) :
    (s.configureStation c).Meets true stopped closed := by
  have hs1 : State.Meets true stopped closed { s with station := c } := { h with station := hc }
  unfold State.configureStation
  dsimp only
  split
  · have hriver : River.Kept true { s.river with cap := min s.river.cap c.fallbackCap } :=
      ⟨fun hup => { h.river.sound hup with }, Nat.le_trans (Nat.min_le_left _ _) h.river.cap⟩
    exact (hs1.setRiver hriver rfl).onlyIf fun h => h.postAll _
  · exact hs1

/-- Closure ends: every unit may run, and every head is served (R99, R119). -/
theorem State.Meets.endClosure (h : s.Meets true stopped closed) : s.endClosure.Meets true false false := by
  have hended : State.Meets true false false (s.setRiver { s.river with closure := none }).settleQueues :=
    { h with
      closure := rfl
      units := fun i => { h.units i with closure := nofun }
      queues := fun d => by simpa [State.settleQueues, State.closed] using (h.queues d).settle (closed' := false)
      river := ⟨fun hup => { h.river.sound hup with }, h.river.cap⟩ }
  exact hended.postAll _

/-- A stop sent to a unit leaves it out of STARTING and RUNNING; the other records stay (R52). -/
theorem State.stopUnit_units (s : State) (why : StopReason) (i : UnitId) :
    (s.stopUnit why i).units = s.units.set i ((s.units.get i).stop s.clock why).unit :=
  (State.applyUnit_frame s i _).1

theorem UnitRec.stop_not_onDuty (u : UnitRec) (now : Second) (why : StopReason) : ¬(u.stop now why).unit.onDuty := by
  rw [UnitRec.stop_eq]
  split
  · simp
  · assumption

/-- Stops sent to some units: each of them is out of STARTING and RUNNING at the end. -/
theorem State.foldl_stopUnit_not_onDuty (why : StopReason) (l : List UnitId) (s : State) (j : UnitId)
    (hj : j ∈ l ∨ ¬(s.units.get j).onDuty) : ¬((l.foldl (fun s i => s.stopUnit why i) s).units.get j).onDuty := by
  induction l generalizing s with
  | nil => exact hj.resolve_left (by simp)
  | cons i l ih =>
    refine ih (s.stopUnit why i) ?_
    by_cases hji : j = i
    · right
      rw [State.stopUnit_units, Oct.get_set, if_pos hji]
      exact UnitRec.stop_not_onDuty _ _ _
    · rw [State.stopUnit_units, Oct.get_set, if_neg hji]
      exact hj.imp_left fun hmem => (List.mem_cons.1 hmem).resolve_left hji

theorem State.Meets.closeStation (h : s.Meets true closed closed) : s.closeStation.Inv := by
  have hriver (origin : ClosureOrigin) : River.Kept true { s.river with closure := some origin } :=
    ⟨fun hup => { h.river.sound hup with }, h.river.cap⟩
  unfold State.closeStation
  split
  · have hclosed : (s.setRiver { s.river with closure := some .commanded }).settleQueues.Meets true false true :=
      { h with
        closure := rfl
        units := fun i => { h.units i with closure := nofun }
        queues := fun d => by simpa [State.settleQueues, State.closed] using (h.queues d).settle (closed' := true)
        river := hriver _ }
    have hstops := hclosed.foldl (fun s i h => h.stopUnit .closure i) unitIds
    have hstopped : State.Meets true true true (unitIds.foldl (fun s i => s.stopUnit .closure i)
        (s.setRiver { s.river with closure := some .commanded }).settleQueues) :=
      { hstops with
        units := fun i =>
          { hstops.units i with
            closure := fun _ => not_or.1 (State.foldl_stopUnit_not_onDuty _ _ _ i (.inl (mem_unitIds i))) } }
    exact (hstopped.postAll _).inv
  · rename_i horigin
    have hsame : State.Meets true closed closed (s.setRiver { s.river with closure := some .commanded }) :=
      { h with closure := (congrArg Option.isSome horigin).symm.trans h.closure, river := hriver _ }
    exact (hsame.postAll _).inv
  · exact h.inv

theorem State.Meets.liftClosure (h : s.Meets true closed closed) : s.liftClosure.Inv := by
  unfold State.liftClosure
  split
  · exact h.inv
  · exact h.endClosure.requestEvaluation.inv

/-- The fallback event: the cap falls, the status is FALLBACK, and a RESET closure ends (R113, R120). The status before it says
nothing of the silence any more. -/
theorem State.Meets.fallback (h : (s.setRiver { s.river with capStatus := .fallback }).Meets true closed closed) :
    ∃ c, s.fallback.Meets true c c := by
  have hriver : River.Kept true
      { s.river with cap := min s.river.cap s.station.fallbackCap, capStatus := .fallback } :=
    ⟨fun hup => { h.river.sound hup with }, Nat.le_trans (Nat.min_le_left _ _) h.river.cap⟩
  have hchanged := (h.setRiver hriver rfl).onlyIf
    (c := s.river.capStatus != .fallback || s.river.cap != min s.river.cap s.station.fallbackCap)
    (f := fun s => s.postAll .capChanged) fun h => h.postAll _
  unfold State.fallback
  cases decide (s.river.closure = some .reset) with
  | false => exact ⟨closed, hchanged⟩
  | true => exact ⟨false, hchanged.endClosure⟩

theorem State.Meets.judgeSilence (h : s.Meets true closed closed) : ∃ c, s.judgeSilence.Meets true c c := by
  have hsound := h.river.sound rfl
  unfold State.judgeSilence
  split
  · dsimp only
    split
    · exact State.Meets.fallback (h.setRiver ⟨fun _ => { hsound with live := nofun, held := nofun }, h.river.cap⟩ rfl)
    · rename_i h720
      split
      · rename_i h120
        simp only [Bool.and_eq_true, decide_eq_true_eq] at h120
        have hheld : River.Sound
            { s.river with silence := nextAge s.river.silence, silenceDue := false, capStatus := .held } :=
          { hsound with live := nofun, held := fun _ => by dsimp only; omega }
        exact ⟨closed, (h.setRiver ⟨fun _ => hheld, h.river.cap⟩ rfl).postAll _⟩
      · rename_i h120
        exact ⟨closed, h.setRiver ⟨fun _ => hsound.silent _ h720 (by simpa using h120), h.river.cap⟩ rfl⟩
  · exact ⟨closed, h⟩

end Ops

end Sys2Proof.Machine
end

section
/-! PROOFS of the invariant, the large operations: an evaluation, the configuration writes, the resets and the second mark. -/

namespace Sys2Proof.Machine

section Ops
variable {s : State} {stopped closed : Bool}

/-! ### The evaluation (chapter 7) -/

theorem State.Meets.estimateAt_le {up : Bool} (h : s.Meets up stopped closed) (c : ClassId) (d : District) :
    s.estimateAt c d ≤ 12000 := CurveClass.flowAt_le_12000 (h.curves c)

/-- The estimate of a running motor stays in the range of the flows (R32). -/
theorem State.uncommandedEstimate_le {s : State} (hcurves : ∀ c, (s.curves.get c).InRange) (u : UnitRec) :
    s.uncommandedEstimate u ≤ 12000 := by
  have hat (d : District) : s.estimateAt u.cfg.cls d ≤ 12000 := CurveClass.flowAt_le_12000 (hcurves _)
  have hstep (d : District) {m : Nat} (hm : m ≤ 12000) :
      (if u.cfg.reach.get d then max (s.estimateAt u.cfg.cls d) m else m) ≤ 12000 := by
    split
    · exact Nat.max_le.2 ⟨hat d, hm⟩
    · exact hm
  unfold State.uncommandedEstimate
  split
  · exact hat _
  · exact hstep 0 (hstep 1 (hstep 2 (Nat.zero_le _)))

theorem State.Meets.newEstimate_le {up : Bool} (h : s.Meets up stopped closed) {u : UnitRec} (hu : u.estimate ≤ 12000) :
    s.newEstimate u ≤ 12000 := by
  unfold State.newEstimate
  split
  case h_6 => exact hu
  case h_7 | h_8 =>
    split
    · exact State.uncommandedEstimate_le h.curves u
    · exact Nat.zero_le _
  all_goals exact h.estimateAt_le _ _

theorem State.Meets.stageEstimates (h : s.Meets true stopped closed) : s.stageEstimates.Meets true stopped closed :=
  h.foldl (fun _ i h => h.applyUnit i ((h.units i).takeEstimate (h.newEstimate_le (h.units i).estimate))) _

theorem State.Meets.stageProtective (h : s.Meets true stopped closed) : s.stageProtective.Meets true stopped closed := by
  refine h.foldl (fun s i h => ?_) _
  unfold State.protectUnit
  dsimp only
  split
  · split
    · exact h.stopUnit _ _
    · split
      · exact h.stopUnit _ _
      · exact h
  · exact h

theorem State.Meets.shedLoop (shares : Tri Share) (why : StopReason) (exceeds : State → Bool)
    (key : State → UnitRec → Nat) (n : Nat) (h : s.Meets true stopped closed) :
    (State.shedLoop shares why exceeds key n s).Meets true stopped closed := by
  induction n generalizing s with
  | zero => exact h
  | succ n ih =>
    unfold State.shedLoop
    split
    · split
      · exact h
      · exact ih (h.stopUnit _ _)
    · exact h

theorem State.Meets.stageDemand (shares : Tri Share) (h : s.Meets true stopped closed) :
    (State.stageDemand shares s).Meets true stopped closed := by
  refine h.foldl (fun s i h => ?_) _
  unfold State.demandStopUnit
  dsimp only
  split
  · exact h.stopUnit _ _
  · exact h

theorem State.Meets.stageRebalance (shares : Tri Share) (hungry : Tri Bool) (h : s.Meets true stopped closed) :
    (State.stageRebalance shares hungry s).Meets true stopped closed := by
  unfold State.stageRebalance
  split
  · split
    · exact h
    · split
      · exact h
      · exact h.stopUnit _ _
  · exact h

/-- A start is taken only without closure, so no unit starts under it (R48, R117). -/
theorem State.Meets.sendStart (h : s.Meets true closed closed) (i : UnitId) : (s.sendStart i).Meets true closed closed := by
  unfold State.sendStart
  dsimp only
  split
  · rw [h.closure]
    exact (h.setUnit (h.units i).start).setDisp
  · exact h

theorem State.Meets.stageStart (shares : Tri Share) (h : s.Meets true closed closed) :
    (State.stageStart shares s).Meets true closed closed := by
  unfold State.stageStart
  split
  · split
    · exact h
    · split
      · exact h
      · exact h.sendStart _
  · exact h

theorem State.Meets.switchFirst (shares : Tri Share) (ts : List District) (h : s.Meets true stopped closed) :
    (s.switchFirst shares ts).Meets true stopped closed := by
  induction ts with
  | nil => exact h
  | cons t ts ih =>
    unfold State.switchFirst
    split
    · exact h.applyUnit _ ((h.units _).switch t)
    · exact ih

theorem State.Meets.evaluate (h : s.Meets true closed closed) : s.evaluate.Meets true closed closed := by
  unfold State.evaluate State.stagesAfterShares State.record State.stageSwitch State.stageShed
  exact ((((((h.stageEstimates.stageProtective).shedLoop _ _ _ _ _).shedLoop _ _ _ _ _).stageDemand _).stageRebalance
    _ _).stageStart _ |>.switchFirst _ _).setDisp

theorem State.Meets.evaluateIfDue (h : s.Meets true closed closed) : s.evaluateIfDue.Meets true closed closed := by
  unfold State.evaluateIfDue
  split
  · exact h.evaluate
  · exact h

/-! ### The configuration (chapter 11) -/

theorem State.Meets.working (h : s.Meets true stopped closed) : s.working.InRange :=
  ⟨h.curves, fun i => by simpa [State.working] using (h.units i).cfg,
    fun d => by simpa [State.working] using (h.bays d).cfg, h.station⟩

theorem State.Meets.beginCommit (h : s.Meets true stopped closed) : s.beginCommit.Meets true stopped closed :=
  h.setStore ⟨fun _ hc => Option.some.inj hc ▸ h.working, by simp⟩

theorem State.Meets.endCommit (h : s.Meets true stopped closed) (equal : Bool) :
    (s.endCommit equal).Meets true stopped closed := by
  unfold State.endCommit
  split
  · exact h
  · rename_i c hcommit
    split
    · exact h
    · split
      · have hstore : Store.Kept { image := .passing c.copy, commit := none, defaulted := false } := by
          refine ⟨by simp, fun w hw => ?_⟩
          rw [StoredImage.passing.injEq] at hw
          exact hw ▸ h.store.commit c hcommit
        exact (h.setStore hstore).postAll _
      · exact (h.setStore ⟨by simp, by simp⟩).postAll _

theorem State.Meets.endCommitFreely (h : s.Meets true stopped closed) : s.endCommitFreely.Meets true stopped closed := by
  have hdrawn : State.Meets true stopped closed { s with freeDraws := s.freeDraws + 1 } := { h with }
  unfold State.endCommitFreely
  split
  · exact hdrawn.endCommit _
  · exact h

theorem Store.Kept.tick {x : Store} (h : x.Kept) : x.tick.Kept := by
  unfold Store.tick
  split
  · exact h
  · rename_i c hcommit
    split
    · exact ⟨fun _ hc => Option.some.inj hc ▸ h.commit c hcommit, h.image⟩
    · exact ⟨fun _ hc => Option.some.inj hc ▸ h.commit c hcommit, h.image⟩

/-! ### Resets (R189, R190) -/

/-- What a reset reads and keeps: the configuration and the store. -/
structure State.Configured (s : State) : Prop where
  working : s.working.InRange
  store : s.store.Kept

theorem State.Meets.configured (h : s.Meets true stopped closed) : s.Configured := ⟨h.working, h.store⟩

/-- The unit record after a reset (R69, R70). -/
theorem UnitRec.Kept.afterReset {u : UnitRec} {q : Nat} (hcfg : u.cfg.InRange) (hq : q ≤ 12000) :
    (u.afterReset q).Kept true true := by
  unfold UnitRec.afterReset
  dsimp only
  split
  · refine ⟨?_, fun _ => by simp, hcfg, by simp, hq, Nat.zero_le _⟩
    constructor <;> simp [Timer.sound, Timer.zero, loadTimer]
  · split
    · split
      · exact UnitRec.Stock.kept_resting ⟨rfl, hcfg, by simp, Nat.zero_le _, Nat.zero_le _⟩ rfl rfl rfl rfl
          (loadTimer_sound _) rfl
      · exact UnitRec.Stock.kept_standing ⟨rfl, hcfg, by simp, Nat.zero_le _, Nat.zero_le _⟩ (.inr (.inr rfl)) (by simp)
          rfl rfl rfl rfl rfl
    · exact UnitRec.Stock.kept_standing ⟨rfl, hcfg, by simp, Nat.zero_le _, Nat.zero_le _⟩ (.inl rfl) (by simp) rfl rfl rfl
        rfl rfl

theorem State.Configured.resetBlocks (h : s.Configured) (hup : s.resetN = true) :
    s.resetBlocks.Meets true true true := by
  obtain ⟨⟨hcurves, hunits, hbays, hstation⟩, hstore⟩ := h
  refine
    { resetN := hup, closure := rfl, notices := fun p => ?_, units := fun i => ?_, queues := fun d => ?_, bays := fun d => ?_
      river := River.Kept.afterReset hstation, curves := hcurves, station := hstation, store := hstore }
  · cases p <;> simpa [State.resetBlocks, Ports.get] using resetNoticePort_sound true
  · simp only [State.resetBlocks, Oct.get_map]
    exact UnitRec.Kept.afterReset (by simpa [State.working] using hunits i)
      (by exact State.uncommandedEstimate_le (by exact hcurves) _)
  · simpa only [State.resetBlocks, Tri.get_ofFn] using resetQueue_sound true
  · simpa only [State.resetBlocks, Tri.get_map] using
      Bay.Kept.afterReset (by simpa [State.working] using hbays d)

theorem State.working_install (s : State) (w : WorkingConfig) : (s.install w).working = w := by
  obtain ⟨curves, units, bays, station⟩ := w
  simp only [State.working, State.install, WorkingConfig.mk.injEq, true_and, and_true]
  exact ⟨Oct.eq_of_get fun i => by simp, Tri.eq_of_get fun d => by simp⟩

theorem State.loadConfig_configured (hstore : s.store.Kept) : s.loadConfig.Configured := by
  have hinstall (w : WorkingConfig) (x : Store) : ((s.install w).setStore x).working = w := s.working_install w
  unfold State.loadConfig
  split
  · rename_i w himage
    exact ⟨(hinstall _ _).symm ▸ hstore.image w himage, ⟨by simp, hstore.image⟩⟩
  · exact ⟨(hinstall _ _).symm ▸ factoryConfig_inRange, ⟨by simp, hstore.image⟩⟩

theorem State.loadConfig_resetN (s : State) : s.loadConfig.resetN = s.resetN := by
  unfold State.loadConfig
  split <;> rfl

theorem State.startUp_meets (hstore : s.store.Kept) : s.startUp.Meets true true true :=
  (State.loadConfig_configured (s := { s with resetN := true }) hstore).resetBlocks (State.loadConfig_resetN _)

/-- Held in reset, a unit drives neither RUNREQ nor SELCMD (R189). -/
theorem UnitRec.Kept.held {u : UnitRec} {up : Bool} (h : u.Kept up closed) :
    UnitRec.Kept false closed { u with runReq := false, selCmd := none } :=
  { h with sound := { h.sound with runReq := by simp, selCmd := by simp } }

theorem State.Meets.holdInReset {up : Bool} (h : s.Meets up closed closed) : s.holdInReset.Meets false closed closed :=
  { h with
    resetN := rfl
    notices := fun p => by simp [State.holdInReset, NoticePort.attnSound]
    units := fun i => by simpa [State.holdInReset] using (h.units i).held
    bays := fun d => ⟨nofun, (h.bays d).cfg⟩
    river := ⟨nofun, h.river.cap⟩ }

/-! ### The second mark -/

theorem State.Meets.tick (h : s.Meets true stopped closed) : s.tick.Meets true stopped closed := by
  have hclosure : (s.river.tickStage.tickSilence.tickProfile).closure = s.river.closure := by
    have hstage : s.river.tickStage.closure = s.river.closure := by
      unfold River.tickStage
      split
      · rfl
      · split <;> rfl
    have hsilence (r : River) : r.tickSilence.closure = r.closure := by
      unfold River.tickSilence
      split <;> rfl
    have hprofile (r : River) : r.tickProfile.closure = r.closure := by
      unfold River.tickProfile
      split
      · rfl
      · split <;> rfl
    rw [hprofile, hsilence, hstage]
  exact
    { h with
      closure := (congrArg Option.isSome hclosure).trans h.closure
      units := fun i => by simpa [State.tick] using (h.units i).tick
      bays := fun d => by simpa [State.tick] using (h.bays d).tick
      river := h.river.tickStage.tickSilence.tickProfile
      store := h.store.tick }

theorem State.Meets.takeUnitDue (h : s.Meets true stopped closed) (i : UnitId) :
    (s.takeUnitDue i).Meets true stopped closed := by
  unfold State.takeUnitDue
  extract_lets s1 s2 s3 s4 s5
  have h1 : s1.Meets true stopped closed := h.onUnit i UnitRec.Kept.runHoldExpiry
  have h2 : s2.Meets true stopped closed := h1.onUnit i UnitRec.Kept.restExpiry
  have h3 : s3.Meets true stopped closed := h2.onUnit i UnitRec.Kept.startTimeoutExpiry
  have h4 : s4.Meets true stopped closed := h3.onUnit i UnitRec.Kept.stopTimeoutExpiry
  have h5 : s5.Meets true stopped closed := h4.onUnit i UnitRec.Kept.travelTimeoutExpiry
  exact h5.setUnit (h5.units i).ageHistory

theorem State.Meets.takeDue (h : s.Meets true closed closed) : ∃ c, s.takeDue.Meets true c c := by
  have hbays := h.endCommitFreely.foldl (f := State.ageBay) (fun s d h => h.ageBay d) districts
  obtain ⟨c, hsilence⟩ := hbays.ageStage.judgeSilence
  have hunits := hsilence.filterProfile.foldl (f := State.takeUnitDue) (fun s i h => h.takeUnitDue i) unitIds
  exact ⟨c, (hunits.foldl (f := State.cutQueue) (fun s d h => h.cutQueue d) districts).evaluateIfDue⟩

theorem State.Meets.secondMark (h : s.Meets true closed closed) : s.secondMark.Inv := by
  obtain ⟨c, hdue⟩ := h.takeDue
  exact hdue.tick.inv

end Ops

end Sys2Proof.Machine
end

section
/-! PROOFS of the invariant, its last layer: the operands of the configuration writes are in range, and every row of the table
keeps the invariant. Settles O59. -/

namespace Sys2Proof.Machine

/-! ### Operands in range (R25, R186) -/

theorem clampNat_mem {lo hi : Nat} (h : lo ≤ hi) (v : Nat) : lo ≤ clampNat lo hi v ∧ clampNat lo hi v ≤ hi := by
  unfold clampNat
  omega

theorem clampInt_mem {lo hi : Int} (h : lo ≤ hi) (v : Int) : lo ≤ clampInt lo hi v ∧ clampInt lo hi v ≤ hi := by
  unfold clampInt
  omega

/-- The shape check of R26, as the order of the heads and of the flows. -/
theorem CurveClass.shapely_iff (c : CurveClass) :
    c.shapely = true ↔
      c.heads.toList.Pairwise (· < ·) ∧ c.flows.toList.Pairwise (fun a b => b ≤ a) ∧ c.qMin ≤ c.flows.a0 := by
  simp only [CurveClass.shapely, Bool.and_eq_true, decide_eq_true_eq, Six.toList, List.pairwise_cons, List.forall_mem_cons]
  constructor
  · rintro ⟨⟨⟨⟨⟨⟨⟨⟨⟨⟨hh0, hh1⟩, hh2⟩, hh3⟩, hh4⟩, hq0⟩, hq1⟩, hq2⟩, hq3⟩, hq4⟩, hmin⟩
    simp only [List.not_mem_nil, false_implies, implies_true, List.Pairwise.nil, and_true]
    omega
  · rintro ⟨hheads, hflows, hmin⟩
    omega

theorem curveRecord_inRange {a : CurveArgs} (h : (curveRecord a).shapely = true) : (curveRecord a).InRange := by
  obtain ⟨hheads, hflows, hmin⟩ := (CurveClass.shapely_iff _).1 h
  obtain ⟨hlow, hhigh⟩ := clampNat_mem (show 1 ≤ 4000 by decide) a.power.toNat
  have hheadClamp (n : Nat) : clampNat 0 20000 n ≤ 20000 := (clampNat_mem (Nat.zero_le _) n).2
  have hflowClamp (n : Nat) : clampNat 0 12000 n ≤ 12000 := (clampNat_mem (Nat.zero_le _) n).2
  refine ⟨?_, hheads, ?_, hflows, hmin, hlow, hhigh⟩
  · simp only [curveRecord, Six.map, Six.toList, List.forall_mem_cons]
    simp [hheadClamp]
  · simp only [curveRecord, Six.map, Six.toList, List.forall_mem_cons]
    simp [hflowClamp]

theorem unitRecord_inRange {a : UnitArgs} {i : UnitId} {c : UnitConfig} (h : unitRecord a = some (i, c)) : c.InRange := by
  unfold unitRecord at h
  split at h
  · rename_i u en cls r hunit henable hcls hreach
    cases h
    have hany : (r.a0 || r.a1 || r.a2) = true := by
      unfold reachOf at hreach
      dsimp only at hreach
      split at hreach
      · rename_i hsome
        cases hreach
        exact hsome
      · cases hreach
    refine ⟨hany, ?_⟩
    simp only [clampNat]
    omega
  · cases h

theorem bayRecord_inRange {a : BayArgs} {d : District} {c : BayConfig} (h : bayRecord a = some (d, c)) : c.InRange := by
  unfold bayRecord at h
  split at h
  · dsimp only at h
    split at h
    · cases h
    · rename_i hapart
      cases h
      simp only [BayConfig.InRange, clampLevel, clampInt, clampNat] at hapart ⊢
      omega
  · cases h

theorem stationRecord_inRange (a : StationArgs) : (stationRecord a).InRange := by
  have hsill := clampInt_mem (show (-2000 : Int) ≤ 15000 by decide) a.sill.toInt
  have hbudget (n : Nat) : clampNat 0 20000 n ≤ 20000 := (clampNat_mem (Nat.zero_le _) n).2
  have hspacing (n : Nat) : clampNat 0 600 n ≤ 600 := (clampNat_mem (Nat.zero_le _) n).2
  refine ⟨hsill.1, hsill.2, (clampNat_mem (Nat.zero_le 60000) _).2, ?_, ?_⟩
  · simp [stationRecord, Tri.map, Tri.toList, hbudget]
  · simp [stationRecord, Tri.map, Tri.toList, hspacing]

/-! ### Rows of the table -/

/-- A choice takes one of its branches. -/
theorem branch_taken {α : Type} (p : Prop) [Decidable p] (a b : α) : (if p then a else b) = a ∨ (if p then a else b) = b := by
  by_cases h : p
  · exact .inl (if_pos h)
  · exact .inr (if_neg h)

/-- Choices by conditions that say the same. -/
theorem branch_congr {α : Type} {p q : Prop} [Decidable p] [Decidable q] (h : p ↔ q) (a b : α) :
    (if p then a else b) = if q then a else b :=
  ite_congr (propext h) (fun _ => rfl) fun _ => rfl

/-- Every state that an answer of the part goes on with meets the invariant. -/
def Keeps (o : Host.Outcome State Fault Refusal) : Prop := ∀ t, o = .next t → t.Inv

theorem keeps_next {s : State} (h : s.Inv) : Keeps (.next s) := by
  rintro _ ⟨⟩
  exact h

theorem keeps_refused (r : Refusal) : Keeps (.refused r) := fun _ h => by cases h

section Rows
variable {s : State}

theorem keeps_whileUp {f : State → State} (h : s.Inv) (hf : ∀ closed, s.Meets true closed closed → (f s).Inv) :
    Keeps (s.whileUp f) := by
  unfold State.whileUp
  split
  · rename_i hup
    exact keeps_next (hf _ (hup ▸ h.meets))
  · exact keeps_next h

theorem keeps_lineChange {level act : State → State} (h : s.Inv)
    (hlevel : ∀ closed, s.Meets false closed closed → (level s).Inv)
    (hact : ∀ closed, s.Meets true closed closed → (act s).Inv) : Keeps (s.lineChange level act) := by
  unfold State.lineChange
  split
  · rename_i hup
    exact keeps_next (hact _ (hup ▸ h.meets))
  · rename_i hheld
    exact keeps_next (hlevel _ ((Bool.not_eq_true _).mp hheld ▸ h.meets))

theorem State.Inv.setPort (h : s.Inv) {p : PortId} {x : PortIf} : (s.setPort p x).Inv := h.meets.setPort.inv

/-- A frame keeps the invariant where the command's own entry does: it acts on a part that has heard the frame and is not
refused (R163, R167). -/
theorem keeps_takeFrame_accepted (h : s.Inv) {f : Frame} {own : State → Reply}
    (hown : ∀ t closed, t.Meets true closed closed → (f.port = .river → t.river.silence = 0) →
      t.portRefusal f = none → (own t).state.Inv) : Keeps (s.takeFrame f own) := by
  refine keeps_whileUp h fun closed hup => ?_
  split
  · exact h
  · exact h.setPort
  · unfold State.replyTo
    split
    · have hheard := hup.hear f.port
      have hsilence : f.port = .river → (s.hear f.port).river.silence = 0 := by
        rw [State.hear_eq]
        intro hriver
        rw [hriver]
        rfl
      refine State.Inv.setPort ?_
      rw [State.judge_eq]
      split
      · exact hheard.inv
      · rename_i hpass
        exact hown _ _ hheard hsilence hpass
    · exact h.setPort

theorem keeps_takeFrame (h : s.Inv) {f : Frame} {own : State → Reply}
    (hown : ∀ t closed, t.Meets true closed closed → (own t).state.Inv) : Keeps (s.takeFrame f own) :=
  keeps_takeFrame_accepted h fun t closed ht _ _ => hown t closed ht

/-- A district command keeps the invariant where its own reply for the district does. -/
theorem inv_onDistrict {p : PortId} {own : District → Reply} (h : s.Inv) (hown : ∀ d, (own d).state.Inv) :
    (onDistrict p s own).state.Inv := by
  cases p with
  | district d => exact hown d
  | river => exact h

theorem keeps_selRise (h : s.Inv) {p : PortId} {ph : Phase} {act : State → State}
    (hact : ∀ closed, s.Meets true closed closed → (act s).Inv) : Keeps (s.selRise p ph act) := by
  rcases s.selRise_cases p ph act with ⟨-, heq⟩ | ⟨-, -, heq⟩ | ⟨hup, -, -, heq⟩ | ⟨-, -, -, heq⟩
  · exact heq ▸ keeps_next h.setPort
  · exact heq ▸ keeps_next h
  · exact heq ▸ keeps_next (hact _ (hup ▸ h.meets))
  · exact heq ▸ keeps_refused _

/-- Posting CONFIG_CHANGED after a write that was taken (R185). -/
theorem State.Meets.writeTaken {closed : Bool} (h : s.Meets true closed closed) (clamped : Bool) :
    (writeTaken s clamped).state.Inv := (h.postAll _).inv

/-- Snapshots say nothing of the attention line (R178, R181). -/
theorem State.Meets.setBuffer {up stopped closed : Bool} (h : s.Meets up stopped closed) (p : PortId) (b : Oct Latches) :
    (s.setNotice p { s.notices.get p with buffer := b }).Meets up stopped closed := h.setNotice (h.notices p)

/-- The action at the end of a transaction (R169). -/
theorem State.Meets.endOf {closed : Bool} (h : s.Meets true closed closed) (p : PortId) (a : EndAction) (n : Nat) :
    (s.endOf p a n).Inv := by
  cases a with
  | none => exact h.inv
  | clearNotices k => exact (h.setNotice (NoticePort.remove_sound _ _)).inv
  | removeCompletions k =>
    cases p with
    | district d => exact (h.setQueue ((h.queues d).removeRead _ _)).inv
    | river => exact h.inv
  | removeSnapshots ks => exact (h.setBuffer p _).inv
  | stationReset => exact (h.configured.resetBlocks h.resetN).inv

/-- A frame of any role but the service roles. -/
theorem keeps_readOnly (h : s.Inv) {f : Frame} {r : State → List Byte} {a : State → EndAction} :
    Keeps (s.takeFrame f fun t => { state := t, response := r t, action := a t }) :=
  keeps_takeFrame h fun _ _ ht => ht.inv

/-- Held in reset the records say nothing of FLOAT and PSEL (R189). -/
theorem State.Meets.floatLevel {stopped closed : Bool} (h : s.Meets false stopped closed) {d : District} {high : Bool} :
    (s.floatLevel d high).Meets false stopped closed := by
  have hbay : Bay.Kept false { s.bays.get d with floatInput := high } := ⟨nofun, (h.bays d).cfg⟩
  exact h.setBay hbay

theorem State.Meets.pselLevel {stopped closed : Bool} (h : s.Meets false stopped closed) (code : Fin 4) :
    (s.setRiver { s.river with pselSeen := code }).Meets false stopped closed := by
  have hriver : River.Kept false { s.river with pselSeen := code } := ⟨nofun, h.river.cap⟩
  exact h.setRiver hriver rfl

/-- An event of a unit taken at a mark. -/
theorem keeps_onUnit (h : s.Inv) {i : UnitId} {f : UnitRec → UnitEffect}
    (hf : ∀ {u : UnitRec} {closed : Bool}, u.Kept true closed → (f u).unit.Kept true closed) :
    Keeps (s.whileUp fun s => s.onUnit i f) := keeps_whileUp h fun _ hup => (hup.onUnit i hf).inv

/-- A change of an input line of a unit: held in reset the line moves, and while the part is up an edge is an event (R40). -/
theorem keeps_unitLine (h : s.Inv) {i : UnitId} {v : UnitRec} {f : UnitRec → UnitEffect} {level act : State → State}
    (hlevel : level s = s.setUnit i v) (hv : ∀ {up closed : Bool}, (s.units.get i).Kept up closed → v.Kept up closed)
    (hact : act s = s ∨ act s = s.onUnit i f)
    (hf : ∀ {u : UnitRec} {closed : Bool}, u.Kept true closed → (f u).unit.Kept true closed) :
    Keeps (s.lineChange level act) := by
  refine keeps_lineChange h (fun _ hheld => hlevel ▸ (hheld.setUnit (hv (hheld.units i))).inv) fun _ hup => ?_
  rcases hact with heq | heq
  · rw [heq]
    exact h
  · rw [heq]
    exact (hup.onUnit i hf).inv

end Rows

/-- Every row of the table keeps the invariant. -/
theorem exec_keeps {s : State} (c : Instr) (h : s.Inv) : Keeps (exec c s) := by
  cases c with
  | nop | readStation | readAllocation | readSnapshot | readConfig | stationReset => exact keeps_readOnly h
  | readNotices p =>
    refine keeps_takeFrame h fun t _ ht => (State.Meets.setNotice ht ?_).inv
    exact ht.notices p
  | setNoticeMask => exact keeps_takeFrame h fun t _ ht => (ht.setNotice (NoticePort.setMask_sound _ _)).inv
  | readUnit =>
    refine keeps_takeFrame h fun t _ ht => ?_
    split <;> exact ht.inv
  | snapshot =>
    refine keeps_takeFrame h fun t _ ht => ?_
    split
    · exact ht.inv
    · exact (ht.setBuffer _ _).inv
  | clearTrip =>
    refine keeps_takeFrame h fun t _ ht => ?_
    split
    · exact ht.inv
    · exact (ht.setUnit ((ht.units _).clearTrip _)).inv
  | readBay =>
    refine keeps_takeFrame h fun t _ ht => ?_
    split <;> exact ht.inv
  | reportLevel =>
    exact keeps_takeFrame h fun t _ ht => inv_onDistrict ht.inv fun d => (ht.applyBay d ((ht.bays d).report _)).inv
  | postOrder =>
    exact keeps_takeFrame h fun t _ ht => inv_onDistrict ht.inv fun d =>
      (ht.setQueue (ht.closure.symm ▸ (ht.queues d).takePost _ _ _ _)).inv
  | cancelOrder =>
    refine keeps_takeFrame h fun t _ ht => inv_onDistrict ht.inv fun d => ?_
    dsimp only
    split
    · exact ht.inv
    · split
      · exact ht.inv
      · exact (ht.applyQueue d (ht.closure.symm ▸ (ht.queues d).leave _ _)).inv
  | setUrgency =>
    refine keeps_takeFrame h fun t _ ht => inv_onDistrict ht.inv fun d => ?_
    split
    · exact ht.inv
    · split
      · exact ht.inv
      · split
        · exact (ht.setQueue ((ht.queues d).setUrgency _ _)).inv
        · exact ht.inv
  | openQueue =>
    exact keeps_takeFrame h fun t _ ht => inv_onDistrict ht.inv fun d =>
      (ht.setQueue ((ht.queues d).setGate fun hnil => by simp [hnil])).inv
  | closeQueue =>
    exact keeps_takeFrame h fun t _ ht => inv_onDistrict ht.inv fun d =>
      (ht.setQueue ((ht.queues d).setGate fun _ => rfl)).inv
  | readQueue => exact keeps_takeFrame h fun t _ ht => inv_onDistrict ht.inv fun d => ht.inv
  | readCompletions =>
    refine keeps_takeFrame h fun t _ ht => inv_onDistrict ht.inv fun d => (ht.setQueue ?_).inv
    exact { ht.queues d with }
  | ackFloat =>
    refine keeps_takeFrame h fun t _ ht => inv_onDistrict ht.inv fun d => ?_
    dsimp only
    split
    · exact ht.inv
    · exact ((ht.setBay (ht.bays d).acknowledge).onlyIf fun h => h.requestEvaluation).inv
  | clearUnordered =>
    refine keeps_takeFrame h fun t _ ht => inv_onDistrict ht.inv fun d => (ht.setQueue ?_).inv
    exact { ht.queues d with unordered := Nat.zero_le _ }
  | setCap p cap chk =>
    refine keeps_takeFrame_accepted h fun t _ ht hsilence hpass => ?_
    cases p with
    | river =>
      have hzero : t.river.silence = 0 := hsilence rfl
      exact (ht.setCap (clampNat_mem (Nat.zero_le 60000) _).2 (by omega)).inv
    | district d => simp [State.portRefusal, commandCodes, riverCodes] at hpass
  | reportStage => exact keeps_takeFrame h fun t _ ht => (ht.setRiver (ht.river.report _) rfl).inv
  | closeStation => exact keeps_takeFrame h fun t _ ht => ht.closeStation
  | liftClosure => exact keeps_takeFrame h fun t _ ht => ht.liftClosure
  | writeCurve p a chk =>
    refine keeps_takeFrame h fun t closed ht => ?_
    split
    · exact ht.inv
    · rename_i c hc
      split
      · rename_i hshape
        have hwritten : State.Meets true closed closed { t with curves := t.curves.set c (curveRecord a) } := by
          refine { ht with curves := fun e => ?_ }
          by_cases he : e = c
          · simpa [he] using curveRecord_inRange hshape
          · simpa [he] using ht.curves e
        exact hwritten.writeTaken _
      · exact ht.inv
  | writeUnitConfig =>
    refine keeps_takeFrame h fun t closed ht => ?_
    split
    · exact ht.inv
    · rename_i i c hrecord
      exact (ht.applyUnit i ((ht.units i).configure (unitRecord_inRange hrecord))).writeTaken _
  | writeBayConfig =>
    refine keeps_takeFrame h fun t closed ht => ?_
    split
    · exact ht.inv
    · rename_i d c hrecord
      exact (ht.configureBay d (bayRecord_inRange hrecord)).writeTaken _
  | writeStationConfig =>
    exact keeps_takeFrame h fun t closed ht => (ht.configureStation (stationRecord_inRange _)).writeTaken _
  | commitConfig => exact keeps_takeFrame h fun t _ ht => ht.beginCommit.inv
  | unknownCommand p code chk =>
    unfold exec execUnknownCommand
    dsimp only
    split
    · exact keeps_readOnly h
    · exact keeps_refused _
  | selNFall p =>
    unfold exec execSelNFall
    refine keeps_lineChange h (fun _ hheld => hheld.setPort.inv) fun _ hup => ?_
    unfold State.selFall
    dsimp only
    split
    · exact h.setPort
    · exact h
  | shortTransaction p bytes =>
    unfold exec execShortTransaction
    dsimp only
    split
    · exact keeps_selRise h fun _ _ => h.setPort
    · exact keeps_refused _
  | endOfTransaction p n =>
    unfold exec execEndOfTransaction
    exact keeps_selRise h fun _ hup => hup.setPort.endOf _ _ _
  | powerOn =>
    refine keeps_next ?_
    unfold State.powerOn
    split
    · exact (State.startUp_meets h.meets.store).inv
    · exact h.meets.holdInReset.inv
  | resetNFall => exact keeps_whileUp h fun _ hup => hup.holdInReset.inv
  | resetNRise =>
    refine keeps_next ?_
    split
    · exact h
    · exact (State.startUp_meets h.meets.store).inv
  | secondMark => exact keeps_whileUp h fun _ hup => hup.secondMark
  | freshnessFall b =>
    exact keeps_whileUp (f := fun s => s.ageBay b) h fun _ hup => (hup.ageBay b).inv
  | stageFreshnessFall => exact keeps_whileUp h fun _ hup => hup.ageStage.inv
  | capStatusHeld =>
    unfold exec execCapStatusHeld
    refine keeps_whileUp h fun _ hup => ?_
    split
    · exact h
    · obtain ⟨c, hjudged⟩ := hup.judgeSilence
      exact hjudged.inv
  | fallbackEvent =>
    unfold exec execFallbackEvent
    refine keeps_whileUp h fun _ hup => ?_
    split
    · exact h
    · obtain ⟨c, hjudged⟩ := hup.judgeSilence
      exact hjudged.inv
  | profileComesIntoForce => exact keeps_whileUp h fun _ hup => hup.filterProfile.inv
  | runHoldExpiry u => exact keeps_onUnit h UnitRec.Kept.runHoldExpiry
  | restExpiry u => exact keeps_onUnit h UnitRec.Kept.restExpiry
  | startTimeoutExpiry u => exact keeps_onUnit h UnitRec.Kept.startTimeoutExpiry
  | stopTimeoutExpiry u => exact keeps_onUnit h UnitRec.Kept.stopTimeoutExpiry
  | travelTimeoutExpiry u => exact keeps_onUnit h UnitRec.Kept.travelTimeoutExpiry
  | startHistoryAgeing u =>
    exact keeps_whileUp (f := fun s => s.setUnit u ((s.units.get u).ageHistory s.clock)) h fun _ hup =>
      (hup.setUnit (hup.units u).ageHistory).inv
  | deadlineExpiry d =>
    exact keeps_whileUp (f := fun s => s.cutQueue d) h fun _ hup => (hup.cutQueue d).inv
  | commitEnd equal =>
    exact keeps_whileUp (f := fun s => s.endCommit equal) h fun _ hup => (hup.endCommit equal).inv
  | evaluation => exact keeps_whileUp h fun _ hup => hup.evaluateIfDue.inv
  | floatLineRise b =>
    unfold exec execFloatLineRise
    refine keeps_lineChange h (fun _ hheld => hheld.floatLevel.inv) fun _ hup => ?_
    split
    · exact h
    · exact (hup.floatRise b).inv
  | floatLineFall b =>
    unfold exec execFloatLineFall
    refine keeps_lineChange h (fun _ hheld => hheld.floatLevel.inv) fun _ hup => ?_
    split
    · exact (hup.floatFall b).inv
    · exact h
  | availRise u =>
    unfold exec execAvailRise
    exact keeps_unitLine h rfl (fun hu => hu.lines true _ _) (branch_taken _ _ _) UnitRec.Kept.availRise
  | availFall u =>
    unfold exec execAvailFall
    exact keeps_unitLine h rfl (fun hu => hu.lines false _ _) (branch_taken _ _ _).symm UnitRec.Kept.availFall
  | atspeedRise u =>
    unfold exec execAtspeedRise
    exact keeps_unitLine h rfl (fun hu => hu.lines _ true _) (branch_taken _ _ _) UnitRec.Kept.atSpeedRise
  | atspeedFall u =>
    unfold exec execAtspeedFall
    exact keeps_unitLine h rfl (fun hu => hu.lines _ false _) (branch_taken _ _ _).symm UnitRec.Kept.atSpeedFall
  | selposChange u pos =>
    unfold exec execSelposChange
    exact keeps_unitLine h rfl (fun hu => hu.lines _ _ pos) (branch_taken _ _ _) fun hu => hu.selPosChange pos
  | pselChange code =>
    unfold exec execPselChange
    refine keeps_lineChange h (fun _ hheld => (hheld.pselLevel code).inv) fun _ hup => ?_
    split
    · exact h
    · exact (hup.setRiver (hup.river.pselChange _) rfl).inv
  | svcChange high =>
    unfold exec execSvcChange
    exact keeps_lineChange h (fun _ hheld => State.Meets.inv { hheld with }) fun _ hup => State.Meets.inv { hup with }
  | selNRiseInIdle p =>
    unfold exec execSelNRiseInIdle
    exact keeps_selRise h fun _ _ => h.setPort

/-- Settles O59: the queue takes no part in the invariant, and every row keeps it. -/
theorem everyStepKeepsTheInvariant : Obligations.EveryStepKeepsTheInvariant := by
  intro s t h hstep
  unfold step at hstep
  split at hstep
  · cases hstep
    exact h
  · rename_i c rest hpending
    have hrest : State.Inv { s with pending := rest } := State.Meets.inv { h.meets with }
    exact exec_keeps c hrest t hstep

end Sys2Proof.Machine
end

section
/-! PROOFS of chapter 9, the judging of frames (R112, R160, R163, R164, R167): settles O1, O3, O4, O5 and O7.

Every frame row is `State.takeFrame` of its frame with some own entry, and whatever that entry does it leaves alone what
`State.Passes` lists. -/

namespace Sys2Proof.Machine

/-- Settles O1: the definition of a step. -/
theorem stepTakesTheFrontCommand : Obligations.StepTakesTheFrontCommand :=
  ⟨fun _ _ _ => rfl, fun s hempty => by rw [step, hempty]⟩

/-! ### What no command's own entry touches -/

/-- From `s` to `t`: the queue, RESET_n, the ports and the silence are the same, a CAP_CHANGED stays, and the cap status is the
same or, on the river port, may become LIVE. -/
structure State.Passes (p : PortId) (s t : State) : Prop where
  pending : t.pending = s.pending
  resetN : t.resetN = s.resetN
  ports : t.ports = s.ports
  silence : t.river.silence = s.river.silence
  status : t.river.capStatus = s.river.capStatus ∨ (p = .river ∧ t.river.capStatus = .live)
  capChanged : ∀ q, holds (s.notices.get q).set .capChanged = true → holds (t.notices.get q).set .capChanged = true

section Passes
variable {p : PortId} {s t u : State}

theorem State.Passes.refl : s.Passes p s := ⟨rfl, rfl, rfl, rfl, .inl rfl, fun _ => id⟩

theorem State.Passes.trans (h : s.Passes p t) (h' : t.Passes p u) : s.Passes p u :=
  ⟨h'.pending.trans h.pending, h'.resetN.trans h.resetN, h'.ports.trans h.ports, h'.silence.trans h.silence,
    h'.status.elim (fun hsame => hsame ▸ h.status) .inr, fun q hq => h'.capChanged q (h.capChanged q hq)⟩

theorem State.Passes.onlyIf {c : Bool} {f : State → State} (h : s.Passes p t) (hf : t.Passes p (f t)) :
    s.Passes p (t.onlyIf c f) := by
  cases c
  · exact h
  · exact h.trans hf

/-- Replacing a record other than a port's, the river's or the notices'. -/
theorem State.Passes.of_rest (hpending : t.pending = s.pending) (hresetN : t.resetN = s.resetN) (hports : t.ports = s.ports)
    (hriver : t.river = s.river) (hnotices : t.notices = s.notices) : s.Passes p t :=
  ⟨hpending, hresetN, hports, hriver ▸ rfl, .inl (hriver ▸ rfl), fun _ hq => hnotices ▸ hq⟩

/-- A new notice record that still holds a CAP_CHANGED it held. -/
theorem State.Passes.setNotice {q : PortId} {n : NoticePort}
    (hn : holds (s.notices.get q).set .capChanged = true → holds n.set .capChanged = true) :
    s.Passes p (s.setNotice q n) := by
  refine ⟨rfl, rfl, rfl, rfl, .inl rfl, fun r hr => ?_⟩
  by_cases hrq : r = q
  · subst hrq
    simpa using hn hr
  · simpa [hrq] using hr

theorem State.Passes.postTo (q : PortId) (k : NoticeKind) : s.Passes p (s.postTo q k) :=
  State.Passes.setNotice fun h => by simp [h]

theorem State.Passes.postAll (k : NoticeKind) : s.Passes p (s.postAll k) :=
  ⟨rfl, rfl, rfl, rfl, .inl rfl, fun q hq => by simp [hq]⟩

theorem State.Passes.withdraw (q : PortId) {k : NoticeKind} (hk : k ≠ .capChanged) : s.Passes p (s.withdraw q k) :=
  State.Passes.setNotice fun h => by simp [h, hk.symm]

theorem State.Passes.requestEvaluation : s.Passes p s.requestEvaluation := .of_rest rfl rfl rfl rfl rfl

theorem State.Passes.setBay (d : District) (b : Bay) : s.Passes p (s.setBay d b) := .of_rest rfl rfl rfl rfl rfl

theorem State.Passes.setQueue (d : District) (q : OrderQueue) : s.Passes p (s.setQueue d q) := .of_rest rfl rfl rfl rfl rfl

theorem State.Passes.setUnit (i : UnitId) (u : UnitRec) : s.Passes p (s.setUnit i u) := .of_rest rfl rfl rfl rfl rfl

theorem State.Passes.applyBay (d : District) (e : BayEffect) : s.Passes p (s.applyBay d e) := by
  unfold State.applyBay
  exact ((State.Passes.setBay d e.bay).onlyIf (.postTo _ _)).onlyIf .requestEvaluation

theorem State.Passes.configureBay (d : District) (c : BayConfig) :
    s.Passes p (s.configureBay d c) := by
  unfold State.configureBay
  exact (State.Passes.applyBay d _).onlyIf (State.Passes.onlyIf (.withdraw _ nofun) (.withdraw _ nofun))

theorem State.Passes.applyQueue (d : District) (e : QueueEffect) : s.Passes p (s.applyQueue d e) := by
  unfold State.applyQueue
  exact ((State.Passes.setQueue d e.queue).onlyIf (.postTo _ _)).onlyIf (.postTo _ _)

theorem State.Passes.sendCredit (c : Option (District × Nat)) : s.Passes p (s.sendCredit c) := by
  cases c with
  | none => exact .refl
  | some c => exact .applyQueue _ _

theorem State.Passes.applyUnit (i : UnitId) (e : UnitEffect) : s.Passes p (s.applyUnit i e) := by
  unfold State.applyUnit
  exact (((State.Passes.setUnit i e.unit).trans (.sendCredit _)).onlyIf (.postAll _)).onlyIf
    ((State.Passes.postAll _).trans .requestEvaluation)

theorem State.Passes.foldl {ι : Type} {f : State → ι → State} (hf : ∀ (s : State) (i : ι), s.Passes p (f s i))
    (l : List ι) (s : State) : s.Passes p (l.foldl f s) := by
  induction l generalizing s with
  | nil => exact .refl
  | cons i l ih => exact (hf s i).trans (ih (f s i))

/-- A new river record with silence and status as they were. -/
theorem State.Passes.setRiver (r : River) (hsilence : r.silence = s.river.silence)
    (hstatus : r.capStatus = s.river.capStatus ∨ (p = .river ∧ r.capStatus = .live)) : s.Passes p (s.setRiver r) :=
  ⟨rfl, rfl, rfl, hsilence, hstatus, fun _ => id⟩

theorem State.Passes.setCap (v : Nat) : s.Passes .river (s.setCap v) :=
  ((State.Passes.setRiver { s.river with cap := v, capStatus := .live } rfl (.inr ⟨rfl, rfl⟩)).trans
    (.postAll _)).trans .requestEvaluation

theorem State.Passes.configureStation (c : StationConfig) : s.Passes p (s.configureStation c) := by
  have hstation : s.Passes p { s with station := c } := .of_rest rfl rfl rfl rfl rfl
  have hcap : s.Passes p ({ s with station := c }.setRiver { s.river with cap := min s.river.cap c.fallbackCap }) :=
    hstation.trans (.setRiver _ rfl (.inl rfl))
  unfold State.configureStation
  split
  · exact hcap.onlyIf (.postAll _)
  · exact hstation

theorem State.Passes.settleQueues : s.Passes p s.settleQueues := .of_rest rfl rfl rfl rfl rfl

theorem State.Passes.setClosure (c : Option ClosureOrigin) :
    s.Passes p (s.setRiver { s.river with closure := c }) :=
  .setRiver _ rfl (.inl rfl)

theorem State.Passes.stopUnits (why : StopReason) (l : List UnitId) :
    s.Passes p (l.foldl (fun s i => s.stopUnit why i) s) :=
  .foldl (fun _ _ => .applyUnit _ _) l s

theorem State.Passes.closeStation : s.Passes p s.closeStation := by
  unfold State.closeStation
  split
  · exact (((State.Passes.setClosure _).trans .settleQueues).trans (.stopUnits _ _)).trans (.postAll _)
  · exact (State.Passes.setClosure _).trans (.postAll _)
  · exact .refl

theorem State.Passes.liftClosure : s.Passes p s.liftClosure := by
  have hend : s.Passes p s.endClosure := ((State.Passes.setClosure none).trans .settleQueues).trans (.postAll _)
  unfold State.liftClosure
  split
  · exact .refl
  · exact hend.trans .requestEvaluation

theorem State.Passes.writeTaken (h : s.Passes p t) (clamped : Bool) : s.Passes p (writeTaken t clamped).state :=
  h.trans (.postAll _)

theorem State.Passes.onDistrict {own : District → Reply} (h : ∀ d, s.Passes p (own d).state) :
    s.Passes p (onDistrict p s own).state := by
  cases p with
  | district d => exact h d
  | river => exact .refl

end Passes

/-! ### Every frame row is a frame taken -/

/-- A frame row is its frame taken with an own entry that leaves alone what `State.Passes` lists. -/
theorem exec_of_frame {c : Instr} {f : Frame} (hwf : c.wf = true) (hf : c.frame? = some f) :
    ∃ own : State → Reply, (∀ s, exec c s = s.takeFrame f own)
      ∧ ∀ s : State, s.portRefusal f = none → s.Passes f.port (own s).state := by
  cases c
  case unknownCommand p code chk =>
    cases hf
    exact ⟨_, fun s => if_pos hwf, fun s _ => .refl⟩
  all_goals cases hf
  case nop | readStation | readAllocation | readSnapshot | readConfig | stationReset =>
    exact ⟨_, fun _ => rfl, fun _ _ => .refl⟩
  case readNotices => exact ⟨_, fun _ => rfl, fun _ _ => .setNotice id⟩
  case setNoticeMask => exact ⟨_, fun _ => rfl, fun _ _ => .setNotice id⟩
  case readUnit | readBay =>
    refine ⟨_, fun _ => rfl, fun _ _ => ?_⟩
    dsimp only
    split <;> exact .refl
  case snapshot =>
    refine ⟨_, fun _ => rfl, fun _ _ => ?_⟩
    dsimp only
    split
    · exact .refl
    · exact .setNotice id
  case clearTrip =>
    refine ⟨_, fun _ => rfl, fun _ _ => ?_⟩
    dsimp only
    split
    · exact .refl
    · exact .of_rest rfl rfl rfl rfl rfl
  case reportLevel => exact ⟨_, fun _ => rfl, fun _ _ => .onDistrict fun d => .applyBay d _⟩
  case postOrder | openQueue | closeQueue | readQueue | readCompletions | clearUnordered =>
    exact ⟨_, fun _ => rfl, fun _ _ => .onDistrict fun d => .of_rest rfl rfl rfl rfl rfl⟩
  case cancelOrder =>
    refine ⟨_, fun _ => rfl, fun _ _ => .onDistrict fun d => ?_⟩
    dsimp only
    split
    · exact .refl
    · split
      · exact .refl
      · exact .applyQueue d _
  case setUrgency =>
    refine ⟨_, fun _ => rfl, fun _ _ => .onDistrict fun d => ?_⟩
    split
    · exact .refl
    · split
      · exact .refl
      · split
        · exact .of_rest rfl rfl rfl rfl rfl
        · exact .refl
  case ackFloat =>
    refine ⟨_, fun _ => rfl, fun _ _ => .onDistrict fun d => ?_⟩
    dsimp only
    split
    · exact .refl
    · exact State.Passes.onlyIf (.of_rest rfl rfl rfl rfl rfl) .requestEvaluation
  case setCap p cap chk =>
    refine ⟨_, fun _ => rfl, fun s hpass => ?_⟩
    cases p with
    | river => exact .setCap _
    | district d => simp [State.portRefusal, commandCodes, riverCodes] at hpass
  case reportStage => exact ⟨_, fun _ => rfl, fun _ _ => .setRiver _ rfl (.inl rfl)⟩
  case closeStation => exact ⟨_, fun _ => rfl, fun _ _ => .closeStation⟩
  case liftClosure => exact ⟨_, fun _ => rfl, fun _ _ => .liftClosure⟩
  case writeCurve p a chk =>
    refine ⟨_, fun _ => rfl, fun s _ => ?_⟩
    dsimp only
    split
    · exact .refl
    next c _ =>
      split
      · have hcurve : s.Passes p { s with curves := s.curves.set c (curveRecord a) } := .of_rest rfl rfl rfl rfl rfl
        exact hcurve.writeTaken _
      · exact .refl
  case writeUnitConfig =>
    refine ⟨_, fun _ => rfl, fun s _ => ?_⟩
    dsimp only
    split
    · exact .refl
    · exact (State.Passes.applyUnit _ _).writeTaken _
  case writeBayConfig =>
    refine ⟨_, fun _ => rfl, fun s _ => ?_⟩
    dsimp only
    split
    · exact .refl
    · exact (State.Passes.configureBay _ _).writeTaken _
  case writeStationConfig => exact ⟨_, fun _ => rfl, fun _ _ => (State.Passes.configureStation _).writeTaken _⟩
  case commitConfig => exact ⟨_, fun _ => rfl, fun _ _ => .of_rest rfl rfl rfl rfl rfl⟩

/-- A frame row sends as many bytes as its code gives it (R162, R171). -/
theorem frame_length {c : Instr} {f : Frame} (hwf : c.wf = true) (hf : c.frame? = some f) :
    f.bytes.length = frameLengthOf f.code := by
  cases c
  case unknownCommand p code chk => exact Laws.FrameShape.unknownCommand p code chk hwf f hf
  all_goals
    cases hf
    try rfl

/-- Settles O3: the frames that `State.takeFrame` does not take. -/
theorem frameOutsideReceiving : Obligations.FrameOutsideReceiving := by
  intro c f s hwf hf
  obtain ⟨own, hexec, -⟩ := exec_of_frame hwf hf
  rw [hexec]
  exact s.takeFrame_other own

/-! ### A frame taken (R163, R164, R167) -/

/-- What answers a frame that completes: the state that answers and the response (R163, R167). -/
theorem exec_receives {c : Instr} {f : Frame} {s : State} (hwf : c.wf = true) (hf : c.frame? = some f) (h : s.receives f) :
    ∃ (t : State) (r : List Byte) (a : EndAction), exec c s = .next (t.answer f r a) ∧
      ((f.runningSum ≠ 90 ∧ t = s ∧ r = [0x10] ∧ a = .none)
        ∨ (f.runningSum = 90 ∧ (∃ code, s.portRefusal f = some code ∧ t = s.heardOn f.port ∧ r = [code] ∧ a = .none))
        ∨ (f.runningSum = 90 ∧ s.portRefusal f = none ∧ (s.heardOn f.port).Passes f.port t)) := by
  obtain ⟨own, hexec, hown⟩ := exec_of_frame hwf hf
  rw [hexec, State.takeFrame_receives own h]
  by_cases hsum : f.runningSum = 90
  · rw [if_pos hsum]
    cases href : s.portRefusal f with
    | some code => exact ⟨_, _, _, rfl, .inr (.inl ⟨hsum, code, rfl, rfl, rfl, rfl⟩)⟩
    | none =>
      have hpass := hown (s.heardOn f.port) ((s.portRefusal_heardOn _ _).trans href)
      exact ⟨_, _, _, congrArg _ (Reply.deliver_eq ..), .inr (.inr ⟨hsum, rfl, hpass⟩)⟩
  · rw [if_neg hsum]
    exact ⟨_, _, _, rfl, .inl ⟨hsum, rfl, rfl, rfl⟩⟩

theorem State.heardOn_resetN (s : State) (p : PortId) : (s.heardOn p).resetN = s.resetN := by cases p <;> rfl

/-- Whatever answers it, a frame finds the port as it was and leaves it with the answer. -/
theorem exec_receives_port {c : Instr} {f : Frame} {s : State} (hwf : c.wf = true) (hf : c.frame? = some f)
    (h : s.receives f) :
    ∃ (t : State) (r : List Byte) (a : EndAction), exec c s = .next t
      ∧ t.ports.get f.port = (s.ports.get f.port).answered f r a ∧ t.resetN = s.resetN := by
  obtain ⟨t, r, a, hexec, hcases⟩ := exec_receives hwf hf h
  have hsame : t.ports = s.ports ∧ t.resetN = s.resetN := by
    rcases hcases with ⟨-, rfl, -⟩ | ⟨-, code, -, rfl, -⟩ | ⟨-, -, hpass⟩
    · exact ⟨rfl, rfl⟩
    · exact ⟨s.heardOn_ports _, s.heardOn_resetN _⟩
    · exact ⟨hpass.ports.trans (s.heardOn_ports _), hpass.resetN.trans (s.heardOn_resetN _)⟩
  exact ⟨_, r, a, hexec, by simp [State.answer, hsame.1], hsame.2⟩

/-- The bytes a port in ANSWERING sends by position (R164). -/
theorem State.dataOut_answering {s : State} {p : PortId} (hup : s.resetN = true) (hsel : (s.ports.get p).selN = false)
    (hphase : (s.ports.get p).phase = .answering) (hlength : 2 ≤ (s.ports.get p).frameLength) :
    s.dataOut p 1 = some (s.ports.get p).status.1 ∧ s.dataOut p 2 = some (s.ports.get p).status.2
    ∧ (∀ k, 2 < k → k ≤ (s.ports.get p).frameLength → s.dataOut p k = some 0)
    ∧ ∀ k, s.dataOut p ((s.ports.get p).frameLength + 1 + k) = some ((s.ports.get p).response[k]?.getD 0) := by
  refine ⟨?_, ?_, fun k hk hle => ?_, fun k => ?_⟩ <;> simp only [State.dataOut, hup, hsel, hphase]
  · simp
  · simp
  · simp [show k ≠ 1 by omega, show k ≠ 2 by omega, hle]
  · have hplace : (s.ports.get p).frameLength + 1 + k - (s.ports.get p).frameLength - 1 = k := by omega
    simp [hplace, show (s.ports.get p).frameLength + 1 + k ≠ 1 by omega, show (s.ports.get p).frameLength + 1 + k ≠ 2 by omega,
      show ¬(s.ports.get p).frameLength + 1 + k ≤ (s.ports.get p).frameLength by omega]

theorem two_le_frameLengthOf (code : Byte) : 2 ≤ frameLengthOf code := by
  unfold frameLengthOf
  split <;> omega

/-- Settles O4: BAD_CHECK and the refusals are cases of `exec_receives`; the bytes sent are those of the port it leaves. -/
theorem framesAreJudgedInOrder : Obligations.FramesAreJudgedInOrder := by
  intro c f s hwf hf h
  obtain ⟨t, r, a, hexec, hcases⟩ := exec_receives hwf hf h
  refine ⟨fun hsum => ?_, fun code hsum href => ?_, fun hcode hsel => ?_⟩
  · rcases hcases with ⟨-, rfl, rfl, rfl⟩ | ⟨hgood, -⟩ | ⟨hgood, -⟩
    · exact hexec
    · exact absurd hgood hsum
    · exact absurd hgood hsum
  · rcases hcases with ⟨hbad, -⟩ | ⟨-, code', href', rfl, rfl, rfl⟩ | ⟨-, hnone, -⟩
    · exact absurd hsum hbad
    · rw [hexec, Option.some.inj (href.symm.trans href')]
    · rw [href] at hnone
      cases hnone
  · obtain ⟨t, r, a, hexec, hport, hup⟩ := exec_receives_port hwf hf h
    have hlength : (t.ports.get f.port).frameLength = f.bytes.length := by
      rw [hport, frame_length hwf hf]
      simp [PortIf.answered, hcode]
    have hsent := State.dataOut_answering (s := t) (p := f.port) (hup.trans h.1) (by rw [hport]; exact hsel)
      (by rw [hport]; rfl) (by rw [hlength, frame_length hwf hf]; exact two_le_frameLengthOf _)
    rw [hlength] at hsent
    obtain ⟨h1, h2, hzeros, hresponse⟩ := hsent
    rw [hport] at h1 h2
    exact ⟨t, _, hexec, rfl, h1, h2, hzeros, hresponse⟩

/-- Settles O5: the frame is heard before it is judged, and no own entry restarts the silence or leaves LIVE. -/
theorem validRiverFrameRestartsSilence : Obligations.ValidRiverFrameRestartsSilence := by
  intro c f s hwf hf h hsum
  obtain ⟨t, r, a, hexec, hcases⟩ := exec_receives hwf hf h
  have hpass : (s.heardOn f.port).Passes f.port t := by
    rcases hcases with ⟨hbad, -⟩ | ⟨-, code, -, rfl, -⟩ | ⟨-, -, hpass⟩
    · exact absurd hsum hbad
    · exact .refl
    · exact hpass
  refine ⟨_, hexec, fun hriver => ?_, fun hdistrict => ?_⟩
  · rw [hriver] at hpass
    refine ⟨hpass.silence, hpass.status.elim id And.right, fun hstatus p => hpass.capChanged p ?_⟩
    simp [State.heardOn, hstatus]
  · cases hp : f.port with
    | river => exact absurd hp hdistrict
    | district d =>
      rw [hp] at hpass
      exact ⟨hpass.silence, hpass.status.elim id fun hriver => by cases hriver.1⟩

/-! ### NOP and unknown codes (R162, R172) -/

theorem commandRow_isNone_iff (code : Byte) : (commandRow code).isNone = true ↔ code.toNat ∉ commandCodes := by
  have agree := rowAgrees_all code
  cases hrow : commandRow code with
  | none => simpa [rowAgrees, hrow] using agree
  | some row =>
    simp only [rowAgrees, hrow, Bool.and_eq_true, decide_eq_true_eq] at agree
    simpa using agree.1.1.1

/-- Settles O7. -/
theorem nopAndUnknownCommandAnswerAlone : Obligations.NopAndUnknownCommandAnswerAlone := by
  intro p code chk s
  refine ⟨fun h => ?_, fun hunknown h hsum => ?_, fun hknown => ?_⟩
  · exact (State.takeFrame_accepts _ h).trans (congrArg _ (Reply.deliver_eq ..))
  · have hwf : (Instr.unknownCommand p code chk).wf = true := (commandRow_isNone_iff code).2 hunknown
    have hrefused : s.portRefusal ⟨p, code, [], chk⟩ = some 0x11 := if_pos hunknown
    exact (framesAreJudgedInOrder _ _ s hwf rfl h).2.1 _ hsum hrefused
  · exact if_neg fun hnone => (commandRow_isNone_iff code).1 hnone hknown

end Sys2Proof.Machine
end

section
/-! PROOFS of chapter 10, the notices (R177, R178, R180) and of R105: settles O6, O8, O9 and O27.

A rise of SEL_n in ANSWERING is `State.endAnswer`, which frees the port and carries out one action; each action then needs only
what it does to one record. -/

namespace Sys2Proof.Machine

/-! ### Posts (R177, R178) -/

/-- After a post the kinds posted since the last READ NOTICES hold the kind posted too. -/
@[simp] theorem NoticePort.holds_post_since (n : NoticePort) (k j : NoticeKind) :
    holds (n.post k).since j = (holds n.since j || decide (j = k)) := by
  simp [NoticePort.post, NoticePort.drive]

/-- Settles O6. -/
theorem postAddsTheKind : Obligations.PostAddsTheKind := by
  intro s k j p q
  have hone : (s.postTo p k).notices.get q = if q = p then (s.notices.get p).post k else s.notices.get q := by simp
  refine ⟨by simp, ?_, by simp, ?_, by simpa using NoticePort.post_sound _ k, by simpa using NoticePort.post_sound _ k,
    by simp, by simp, by simp, by simp, fun hqp => by simp [hqp], rfl, rfl⟩
  all_goals
    rw [hone]
    by_cases hqp : q = p
    · simp [hqp]
    · simp [hqp]

/-! ### READ NOTICES (R180) -/

/-- The two bytes of the notice field, bit by bit. -/
theorem noticeField_eq (set : BitVec 14) :
    ∃ hi lo : Byte, (∀ k < 8, hi.getLsbD k = set.getLsbD (8 + k)) ∧ (∀ k < 8, lo.getLsbD k = set.getLsbD k)
      ∧ noticeField set = [hi, lo] := by
  refine ⟨BitVec.ofNat 8 (set.toNat / 256), BitVec.ofNat 8 set.toNat, fun k hk => ?_, fun k hk => ?_, ?_⟩
  · rw [BitVec.getLsbD_ofNat, decide_eq_true hk, Bool.true_and, show (256 : Nat) = 2 ^ 8 from rfl,
      Nat.testBit_div_two_pow, Nat.add_comm]
    rfl
  · rw [BitVec.getLsbD_ofNat, decide_eq_true hk, Bool.true_and]
    rfl
  · simp [noticeField, beBytes]

/-- Settles O8: the field is that of the set held when the frame has been heard. -/
theorem readNoticesReturnsTheSet : Obligations.ReadNoticesReturnsTheSet := by
  intro p chk s h
  obtain ⟨hi, lo, hhi, hlo, hfield⟩ := noticeField_eq ((s.heardOn p).notices.get p).set
  refine ⟨hi, lo, hhi, hlo, (State.takeFrame_accepts _ h).trans ?_⟩
  dsimp only
  rw [hfield]
  exact congrArg _ (Reply.deliver_eq ..)

/-! ### The end of a transaction (R160, R169) -/

/-- A port freed by the rise of SEL_n after `n` more bytes. -/
def PortIf.freed (x : PortIf) (n : Nat) : PortIf :=
  { x with selN := true, phase := .idle, position := min 65535 (x.position + n), endAction := .none }

section EndOfTransaction
variable {s : State} {p : PortId}

/-- A rise of SEL_n in ANSWERING frees the port and carries out what the command taken left to be done. -/
theorem exec_endOfTransaction (n : Nat) (hup : s.resetN = true) (hsel : (s.ports.get p).selN = false)
    (hphase : (s.ports.get p).phase = .answering) :
    exec (.endOfTransaction p n) s =
      .next ((s.setPort p ((s.ports.get p).freed n)).endOf p (s.ports.get p).endAction
        (min 65535 ((s.ports.get p).position + n) - (s.ports.get p).frameLength)) := by
  have hrise : exec (.endOfTransaction p n) s = .next (s.endAnswer p n) := by
    simp [exec, execEndOfTransaction, State.selRise, hup, hsel, hphase]
  exact hrise

end EndOfTransaction

/-! ### The clear of a READ NOTICES (R180) -/

/-- The kinds whose byte went out: 13 to 8 with the second response byte, 7 to 0 with the third. -/
theorem getLsbD_noticesOut (out : Nat) {j : Nat} (hj : j < 14) :
    (noticesOut out).getLsbD j = decide ((if 8 ≤ j then 2 else 3) ≤ out) := by
  have hhigh : ∀ i : Fin 14, (0x3F00#14).getLsbD i.val = decide (8 ≤ i.val) := by decide
  have hlow : ∀ i : Fin 14, (0x00FF#14).getLsbD i.val = decide (i.val < 8) := by decide
  have h1 := hhigh ⟨j, hj⟩
  have h2 := hlow ⟨j, hj⟩
  dsimp only at h1 h2
  rw [noticesOut, BitVec.getLsbD_or, apply_ite (BitVec.getLsbD · j), apply_ite (BitVec.getLsbD · j), h1, h2]
  by_cases h8 : 8 ≤ j
  · have hnot : ¬j < 8 := by omega
    rw [if_pos h8]
    split <;> split <;> simp [*]
  · have hless : j < 8 := by omega
    rw [if_neg h8]
    split <;> split <;> simp [*]

/-- Settles O9. -/
theorem endOfReadNoticesClears : Obligations.EndOfReadNoticesClears := by
  intro p n returned s x hup hsel hphase haction out old
  refine ⟨old.set &&& ~~~(returned &&& noticesOut out &&& ~~~old.since), fun j hj => ?_, ?_⟩
  · simp only [BitVec.getLsbD_and, BitVec.getLsbD_not, getLsbD_noticesOut out hj, decide_eq_true hj, Bool.true_and]
  · rw [exec_endOfTransaction n hup hsel hphase]
    change Host.Outcome.next (State.endOf _ p x.endAction _) = _
    rw [haction, ← attention_eq_decide]
    rfl

/-! ### The removal of a READ COMPLETIONS (R105) -/

/-- The records that went out whole are as many as the bytes behind the two of the head hold. -/
theorem whole_eq {returned whole out : Nat} (hle : whole ≤ returned) (hfit : 2 + 19 * whole ≤ max out 2)
    (hmost : whole < returned → max out 2 < 2 + 19 * (whole + 1)) : min returned ((out - 2) / 19) = whole := by
  omega

/-- Settles O27. -/
theorem endOfReadCompletionsRemoves : Obligations.EndOfReadCompletionsRemoves := by
  intro d n returned s x q hup hsel hphase haction out whole hle hfit hmost
  rw [exec_endOfTransaction n hup hsel hphase]
  change Host.Outcome.next (State.endOf _ _ x.endAction out) = _
  rw [haction, ← whole_eq hle hfit hmost]
  rfl

end Sys2Proof.Machine
end

section
/-! PROOFS of chapter 10, the snapshots (R181 to R183): settles O11, O12 and O13.

A latch request and a removal each touch the entries of one unit, so that a run of them is read unit by unit. -/

namespace Sys2Proof.Machine

/-! ### A run of changes, each at one place -/

/-- Changes that each touch one place, taken over a list without repetitions: each place of the list has been changed once, on
what it held at the start. `P` is what every change keeps and the change may depend on. -/
theorem get_foldl_of_each {σ ι α : Type} [DecidableEq ι] {P : σ → Prop} {get : σ → ι → α} {f : σ → ι → σ} {g : ι → α → α}
    (hkeep : ∀ s i, P s → P (f s i))
    (hstep : ∀ s i j, P s → get (f s i) j = if j = i then g j (get s j) else get s j)
    {l : List ι} (hnodup : l.Nodup) {s : σ} (hs : P s) (j : ι) :
    get (l.foldl f s) j = if j ∈ l then g j (get s j) else get s j := by
  induction l generalizing s with
  | nil => rfl
  | cons i l ih =>
    obtain ⟨hi, hl⟩ := List.nodup_cons.1 hnodup
    rw [List.foldl_cons, ih hl (hkeep s i hs), hstep s i j hs]
    by_cases hji : j = i
    · subst hji
      simp [hi]
    · simp [hji]

theorem unitIds_nodup : unitIds.Nodup := by decide

/-! ### SNAPSHOT (R182) -/

/-- A fact about a byte is one about its two half bytes. -/
theorem forall_byte {P : Byte → Prop} (h : ∀ a b : Fin 16, P (BitVec.ofNat 8 (16 * a.val + b.val))) (v : Byte) : P v := by
  have hv := h ⟨v.toNat / 16, by omega⟩ ⟨v.toNat % 16, by omega⟩
  have e : 16 * (v.toNat / 16) + v.toNat % 16 = v.toNat := by omega
  simpa only [e, BitVec.ofNat_toNat, BitVec.setWidth_eq] using hv

/-- Kind bits 7 to 2 are set exactly from 4 on. -/
theorem kinds_out_of_range (kinds : Byte) : (kinds &&& 0xFC != 0) = decide (4 ≤ kinds.toNat) :=
  forall_byte (P := fun v => (v &&& 0xFC != 0) = decide (4 ≤ v.toNat)) (by decide) kinds

section Latch
variable (now : Second) (us : Oct UnitRec) (units kinds : Byte)

/-- The entries of one unit after a SNAPSHOT that may select it. -/
def latched (i : UnitId) (l : Latches) : Latches :=
  { status :=
      if units.getLsbD i.val = true ∧ kinds.getLsbD 0 = true ∧ l.status = none then some (us.get i).statusEntry
      else l.status
    timers :=
      if units.getLsbD i.val = true ∧ kinds.getLsbD 1 = true ∧ l.timers = none then some ((us.get i).timersEntry now)
      else l.timers }

theorem get_latchUnit (b : Oct Latches) (i j : UnitId) :
    (latchUnit now us units kinds b i).get j = if j = i then latched now us units kinds j (b.get j) else b.get j := by
  by_cases hji : j = i
  · subst hji
    cases hu : units.getLsbD j.val
    · simp [latchUnit, latched, hu, -BitVec.getLsbD_eq_getElem]
    · cases hs : (b.get j).status <;> cases ht : (b.get j).timers <;>
        simp [latchUnit, latched, hu, hs, ht, -BitVec.getLsbD_eq_getElem]
  · cases hu : units.getLsbD i.val <;> simp [latchUnit, hu, hji, -BitVec.getLsbD_eq_getElem]

theorem get_latchUnits (b : Oct Latches) (i : UnitId) :
    (unitIds.foldl (latchUnit now us units kinds) b).get i = latched now us units kinds i (b.get i) := by
  rw [get_foldl_of_each (P := fun _ => True) (get := Oct.get) (g := latched now us units kinds) (fun _ _ _ => trivial)
    (fun b i j _ => get_latchUnit now us units kinds b i j) unitIds_nodup trivial, if_pos (mem_unitIds i)]

end Latch

section Snapshot
variable {s : State} {p : PortId} {units kinds chk : Byte}

/-- SNAPSHOT with a kind bit above 1: BAD_VALUE alone. -/
theorem exec_snapshot_bad (h : s.accepts ⟨p, 0x08, [units, kinds], chk⟩) (hbad : 4 ≤ kinds.toNat) :
    exec (.snapshot p units kinds chk) s =
      .next ((s.heardOn p).answer ⟨p, 0x08, [units, kinds], chk⟩ [0x20]) := by
  refine (State.takeFrame_accepts _ h).trans ?_
  rw [if_pos (by rw [kinds_out_of_range, decide_eq_true hbad])]
  exact congrArg _ (Reply.deliver_eq ..)

/-- SNAPSHOT taken: the entries selected are latched from units and clock, which hearing the frame leaves alone. -/
theorem exec_snapshot_ok (h : s.accepts ⟨p, 0x08, [units, kinds], chk⟩) (hgood : kinds.toNat < 4) :
    exec (.snapshot p units kinds chk) s =
      .next (((s.heardOn p).setNotice p
        { (s.heardOn p).notices.get p with
          buffer := unitIds.foldl (latchUnit s.clock s.units units kinds) ((s.heardOn p).notices.get p).buffer }).answer
        ⟨p, 0x08, [units, kinds], chk⟩ [0x00]) := by
  refine (State.takeFrame_accepts _ h).trans ?_
  rw [if_neg (by rw [kinds_out_of_range, decide_eq_false (by omega)]; simp), State.heardOn_units, State.heardOn_clock]
  exact congrArg _ (Reply.deliver_eq ..)

end Snapshot

/-- Settles O11. -/
theorem snapshotLatches : Obligations.SnapshotLatches := by
  intro p units kinds chk s haccepts h n f
  refine ⟨exec_snapshot_bad haccepts, fun hgood => ⟨_, fun i => ?_, exec_snapshot_ok haccepts hgood⟩⟩
  rw [get_latchUnits]
  simp only [latched, UnitRec.statusEntry, UnitRec.timersEntry, UnitRec.configPending, UnitRec.oldestAge_eq]
  cases (s.units.get i).history <;> rfl

/-! ### READ SNAPSHOT (R183) -/

theorem flatMap_pointwise {α β : Type} {l : List α} {f g : α → List β} (h : ∀ x, f x = g x) :
    l.flatMap f = l.flatMap g :=
  congrArg (fun f => l.flatMap f) (funext h)

/-- Settles O12. -/
theorem readSnapshotReturnsTheBuffer : Obligations.ReadSnapshotReturnsTheBuffer := by
  intro p chk s haccepts h b byte keys entry
  have hkeys : (bufferEntries b).map Prod.fst = keys := by
    rw [bufferEntries, List.map_flatMap]
    refine flatMap_pointwise fun i => ?_
    cases hs : (b.get i).status <;> cases ht : (b.get i).timers <;> rfl
  have hstatus (i : UnitId) (e : StatusEntry) (he : (b.get i).status = some e) : entry (i, false) = e.bytes i := by
    cases htrip : e.tripReason <;> cases hpending : e.configPending <;>
      simp [entry, he, htrip, hpending, StatusEntry.bytes, beBytes, byte, codeOrAbsent, boolCode]
  have htimers (i : UnitId) (e : TimersEntry) (he : (b.get i).timers = some e) : entry (i, true) = e.bytes i := by
    simp [entry, he, TimersEntry.bytes, beBytes, byte]
  have hbytes : (bufferEntries b).flatMap Prod.snd = keys.flatMap entry := by
    rw [bufferEntries, List.flatMap_assoc, List.flatMap_assoc]
    refine flatMap_pointwise fun i => ?_
    cases hs : (b.get i).status <;> cases ht : (b.get i).timers <;> simp [hstatus, htimers, hs, ht]
  refine (State.takeFrame_accepts _ haccepts).trans ?_
  change Host.Outcome.next (Reply.deliver ⟨h, [Result.ok.byte] ++ byte1 (bufferEntries b).length
    ++ (bufferEntries b).flatMap Prod.snd, .removeSnapshots ((bufferEntries b).map Prod.fst)⟩ _) = _
  rw [Reply.deliver_eq, hbytes, hkeys, byte1_eq, ← hkeys, List.length_map]
  rfl

/-! ### The removal of a READ SNAPSHOT (R183) -/

/-- The entries carried out in full are a run from the start of the response. -/
theorem entriesOut_append {gone kept : List (UnitId × Bool)} {out : Nat}
    (hfit : (gone.map fun k => entryBytes k.2).sum ≤ out)
    (hmost : ∀ k ks, kept = k :: ks → out < (gone.map fun k => entryBytes k.2).sum + entryBytes k.2) :
    entriesOut out (gone ++ kept) = gone := by
  induction gone generalizing out with
  | nil =>
    cases kept with
    | nil => rfl
    | cons k ks => simpa [entriesOut] using hmost k ks rfl
  | cons g gone ih =>
    simp only [List.map_cons, List.sum_cons] at hfit hmost
    rw [List.cons_append, entriesOut, if_pos (by omega), ih (by omega)]
    intro k ks hk
    have := hmost k ks hk
    omega

/-- What a run of removals leaves of one unit's entries. -/
theorem get_foldl_dropLatch (gone : List (UnitId × Bool)) (b : Oct Latches) (i : UnitId) :
    ((gone.foldl dropLatch b).get i).status = (if (i, false) ∈ gone then none else (b.get i).status)
    ∧ ((gone.foldl dropLatch b).get i).timers = (if (i, true) ∈ gone then none else (b.get i).timers) := by
  induction gone generalizing b with
  | nil => exact ⟨rfl, rfl⟩
  | cons k gone ih =>
    obtain ⟨j, timers⟩ := k
    obtain ⟨hstatus, htimers⟩ := ih (dropLatch b (j, timers))
    rw [List.foldl_cons, hstatus, htimers]
    by_cases hij : i = j
    · subst hij
      cases timers <;> simp [dropLatch]
    · simp [dropLatch, hij]

/-- Settles O13. -/
theorem endOfReadSnapshotRemoves : Obligations.EndOfReadSnapshotRemoves := by
  intro p n gone kept s x size out hup hsel hphase haction hfit hmost old
  refine ⟨gone.foldl dropLatch old, get_foldl_dropLatch gone old, ?_⟩
  have hgone : entriesOut out (gone ++ kept) = gone := entriesOut_append hfit hmost
  rw [exec_endOfTransaction n hup hsel hphase]
  change Host.Outcome.next (State.endOf _ _ x.endAction _) = _
  rw [haction]
  change Host.Outcome.next (State.setNotice _ _
    { s.notices.get p with buffer := (entriesOut out (gone ++ kept)).foldl dropLatch old }) = _
  rw [hgone]
  rfl

end Sys2Proof.Machine
end

section
/-! PROOFS of chapter 9, the edges of SEL_n (R160, R164 to R166): settles O40. -/

namespace Sys2Proof.Machine

/-! ### The status segment (R165, R171) -/

/-- Byte 0 of the segment, bit by bit. -/
theorem statusByte0_bits (n : NoticePort) (short : Bool) :
    ∀ k < 8, (statusByte0 n short).getLsbD k =
      match k with
      | 7 => decide (n.set ≠ 0)
      | 6 => n.set.getLsbD 0
      | 5 => short
      | 4 => n.attn
      | _ => false := by
  have bits : ∀ (a b c d : Bool) (k : Fin 8),
      (BitVec.ofNat 8 (flagBit a 7 + flagBit b 6 + flagBit c 5 + flagBit d 4)).getLsbD k.val =
        match k.val with
        | 7 => a
        | 6 => b
        | 5 => c
        | 4 => d
        | _ => false := by decide
  have hset : (n.set != 0) = decide (n.set ≠ 0) := by rw [Bool.eq_iff_iff, bne_iff_ne, decide_eq_true_iff]
  intro k hk
  rw [statusByte0, hset]
  exact bits _ _ _ _ ⟨k, hk⟩

/-- Byte 1 of the segment, field by field. -/
theorem State.statusByte1_fields (s : State) :
    s.statusByte1.getLsbD 7 = s.river.closure.isSome
    ∧ s.statusByte1.getLsbD 6 = decide (s.river.closure = some .commanded)
    ∧ (s.statusByte1.toNat / 16 % 4 = match s.river.capStatus with | .live => 0 | .held => 1 | .fallback => 2)
    ∧ s.statusByte1.toNat / 4 % 4 = s.river.profile.val ∧ s.statusByte1.getLsbD 1 = s.svc
    ∧ s.statusByte1.getLsbD 0 = s.store.commit.isSome := by
  have fields : ∀ (a b c d : Bool) (cap : Fin 3) (profile : Fin 4),
      let v : Byte := BitVec.ofNat 8
        (flagBit a 7 + flagBit b 6 + cap.val * 16 + profile.val * 4 + flagBit c 1 + flagBit d 0)
      v.getLsbD 7 = a ∧ v.getLsbD 6 = b ∧ v.toNat / 16 % 4 = cap.val ∧ v.toNat / 4 % 4 = profile.val
        ∧ v.getLsbD 1 = c ∧ v.getLsbD 0 = d := by decide
  have hcode : ∃ cap : Fin 3, s.river.capStatus.code = cap.val
      ∧ cap.val = match s.river.capStatus with | .live => 0 | .held => 1 | .fallback => 2 := by
    cases s.river.capStatus
    · exact ⟨0, rfl, rfl⟩
    · exact ⟨1, rfl, rfl⟩
    · exact ⟨2, rfl, rfl⟩
  obtain ⟨cap, hcap, hmatch⟩ := hcode
  rw [← hmatch, State.statusByte1, hcap]
  exact fields _ _ _ _ _ _

/-! ### Falls of SEL_n (R160, R165) -/

theorem exec_selNFall (p : PortId) (s : State) :
    exec (.selNFall p) s = s.lineChange (fun s => s.selLevel p false) fun s => s.selFall p := rfl

/-! ### Rises of SEL_n (R160, R166) -/

/-- A well-formed row that names a rise of SEL_n is a rise of its phase. -/
theorem exec_of_riseOf {c : Instr} {p : PortId} {ph : Phase} (h : c.riseOf = some (p, ph)) (hwf : c.wf = true) :
    ∃ act, ∀ s, exec c s = s.selRise p ph act := by
  cases c <;> cases h
  case shortTransaction bytes => exact ⟨_, fun s => if_pos hwf⟩
  case endOfTransaction n => exact ⟨_, fun s => rfl⟩
  case selNRiseInIdle => exact ⟨_, fun s => rfl⟩

section Rises
variable {s : State} {p : PortId} {ph : Phase} {act : State → State}

theorem State.selRise_held (h : s.resetN = false) : s.selRise p ph act = .next (s.selLevel p true) := by
  simp [State.selRise, h]

theorem State.selRise_high (hup : s.resetN = true) (hsel : (s.ports.get p).selN = true) :
    s.selRise p ph act = .next s := by
  simp [State.selRise, hup, hsel]

theorem State.selRise_taken (hup : s.resetN = true) (hsel : (s.ports.get p).selN = false)
    (hphase : (s.ports.get p).phase = ph) : s.selRise p ph act = .next (act s) := by
  simp [State.selRise, hup, hsel, hphase]

theorem State.selRise_other (hup : s.resetN = true) (hsel : (s.ports.get p).selN = false)
    (hphase : (s.ports.get p).phase ≠ ph) : s.selRise p ph act = .refused .otherPhase := by
  simp [State.selRise, hup, hsel, hphase]

end Rises

/-- The code received, after bytes of a frame (R160). -/
theorem PortIf.receive_code (x : PortIf) (bytes : List Byte) : (x.receive bytes).code = (x.code <|> bytes.head?) := by
  cases bytes <;> cases h : x.code <;> simp [PortIf.receive, h]

/-- Status segment and response stay as bytes are received. -/
theorem PortIf.receive_segment (x : PortIf) (bytes : List Byte) :
    (x.receive bytes).status = x.status ∧ (x.receive bytes).response = x.response := by
  cases bytes <;> exact ⟨rfl, rfl⟩

/-! ### What is sent by position (R164) -/

section Sent
variable {s : State} {p : PortId}

theorem State.dataOut_none (h : s.resetN = false ∨ (s.ports.get p).selN = true) (k : Nat) : s.dataOut p k = none := by
  rcases h with h | h <;> simp [State.dataOut, h]

theorem State.dataOut_idle (hup : s.resetN = true) (hsel : (s.ports.get p).selN = false)
    (hphase : (s.ports.get p).phase = .idle) (k : Nat) : s.dataOut p k = some 0 := by
  simp [State.dataOut, hup, hsel, hphase]

theorem State.dataOut_receiving (hup : s.resetN = true) (hsel : (s.ports.get p).selN = false)
    (hphase : (s.ports.get p).phase = .receiving) :
    s.dataOut p 1 = some (s.ports.get p).status.1 ∧ s.dataOut p 2 = some (s.ports.get p).status.2
    ∧ ∀ k, 2 < k → s.dataOut p k = some 0 := by
  refine ⟨?_, ?_, fun k hk => ?_⟩ <;> simp only [State.dataOut, hup, hsel, hphase]
  · simp
  · simp
  · simp [show k ≠ 1 by omega, show k ≠ 2 by omega]

/-- The segment goes out at positions 1 and 2 of every transaction that no reset cut. -/
theorem State.dataOut_segment (hup : s.resetN = true) (hsel : (s.ports.get p).selN = false)
    (hphase : (s.ports.get p).phase ≠ .idle) :
    s.dataOut p 1 = some (s.ports.get p).status.1 ∧ s.dataOut p 2 = some (s.ports.get p).status.2 := by
  cases h : (s.ports.get p).phase with
  | idle => exact absurd h hphase
  | receiving => exact ⟨(State.dataOut_receiving hup hsel h).1, (State.dataOut_receiving hup hsel h).2.1⟩
  | answering => simp [State.dataOut, hup, hsel, h]

end Sent

/-- Settles O40. -/
theorem selectEdges : Obligations.SelectEdges := by
  intro p s x n leaves
  refine ⟨fun hup hsel => ?_, fun hup hsel => ?_, fun hheld => ?_,
    fun bytes hshort hup hsel hphase => ?_, fun bytes hlong => if_neg (by simp [hlong]),
    fun k hup hsel hphase haction => ?_, fun hup hsel hphase => ?_,
    fun c ph hrise hwf => ?_, fun k h => State.dataOut_none h k,
    fun k hup hsel hphase => State.dataOut_idle hup hsel hphase k, State.dataOut_segment,
    fun k hup hsel hphase => (State.dataOut_receiving hup hsel hphase).2.2 k, fun hup hsel hphase hlength => ?_⟩
  · obtain ⟨hclosure, horigin, hcap, hprofile, hsvc, hcommit⟩ := s.statusByte1_fields
    refine ⟨_, _, statusByte0_bits n x.frameShort, hclosure, horigin, hcap, hprofile, hsvc, hcommit,
      ?_⟩
    rw [exec_selNFall, State.lineChange_up _ _ hup, State.selFall, if_pos hsel]
    rfl
  · rw [exec_selNFall, State.lineChange_up _ _ hup, State.selFall, if_neg (Bool.eq_false_iff.1 hsel)]
  · rw [exec_selNFall, State.lineChange_held _ _ hheld]
    rfl
  · refine ⟨_, (if_pos hshort).trans (State.selRise_taken hup hsel hphase), rfl, rfl, rfl, x.receive_code bytes,
      (x.receive_segment bytes).1, (x.receive_segment bytes).2⟩
  · rw [exec_endOfTransaction k hup hsel hphase]
    change Host.Outcome.next (State.endOf _ p x.endAction _) = _
    rw [haction]
    rfl
  · exact State.selRise_taken (act := fun s => s.selLevel p true) hup hsel hphase
  · obtain ⟨act, hexec⟩ := exec_of_riseOf hrise hwf
    rw [hexec]
    exact ⟨State.selRise_held, State.selRise_high, State.selRise_other⟩
  · obtain ⟨-, -, hzeros, hresponse⟩ := State.dataOut_answering hup hsel hphase hlength
    exact ⟨hzeros, hresponse⟩

end Sys2Proof.Machine
end

section
/-! PROOFS of chapter 11: commits (R188), settling O37, and resets (R189, R190), settling O38 and O39.

Every reset ends in `State.resetBlocks`, which looks at the lines and the working configuration alone: `resetBlocks_blocksReset`
says so once, and each reset is then the state it starts from. -/

namespace Sys2Proof.Machine

/-! ### Rows of a line or of a mark as they stand -/

theorem exec_commitEnd (equal : Bool) (s : State) :
    exec (.commitEnd equal) s = s.whileUp fun s => s.endCommit equal := rfl

theorem exec_resetNRise (s : State) : exec .resetNRise s = .next (if s.resetN then s else s.startUp) := rfl

theorem exec_powerOn (s : State) : exec .powerOn s = .next (if s.resetN then s.startUp else s.holdInReset) := rfl

/-! ### Commits (R188) -/

/-- Settles O37. -/
theorem commitStoresTheWorkingConfiguration : Obligations.CommitStoresTheWorkingConfiguration := by
  refine ⟨fun p chk s h => ?_, fun equal s => ⟨fun c hup hcommit hdue => ?_, fun h => ?_⟩⟩
  · refine (State.takeFrame_accepts _ h).trans ((congrArg _ (Reply.deliver_eq ..)).trans ?_)
    cases p <;> rfl
  · rw [exec_commitEnd, State.whileUp_up _ hup, State.endCommit, hcommit]
    cases equal <;> simp [hdue, State.setStore, State.postAll, State.setNotices]
  · rcases h with hdue | hheld
    · have hsame : s.endCommit equal = s := by
        cases hcommit : s.store.commit with
        | none => simp [State.endCommit, hcommit]
        | some c => simp [State.endCommit, hcommit, hdue c hcommit]
      simp [exec_commitEnd, State.whileUp, hsame]
    · rw [exec_commitEnd, State.whileUp_held _ hheld]

/-! ### The state after a reset (R18, R22, R37, R69, R70) -/

/-- The input lines of `t` stand as those of `s`. -/
structure State.SameLines (s t : State) : Prop where
  float : ∀ d, (t.bays.get d).floatInput = (s.bays.get d).floatInput
  psel : t.river.pselSeen = s.river.pselSeen
  selPos : ∀ i, (t.units.get i).selPos = (s.units.get i).selPos
  avail : ∀ i, (t.units.get i).avail = (s.units.get i).avail
  atSpeed : ∀ i, (t.units.get i).atSpeed = (s.units.get i).atSpeed
  selN : ∀ p, (t.ports.get p).selN = (s.ports.get p).selN

/-- The unit record after a reset, in the words of the claims (R69, R70). -/
theorem UnitRec.afterReset_eq (u : UnitRec) (q : Nat) : u.afterReset q = u.resetTo u.cfg q := by
  match hpos : u.selPos with
  | 0 | 1 | 2 | 3 =>
    cases hspeed : u.atSpeed <;> cases havail : u.avail <;> cases henable : u.cfg.enable <;>
      simp [UnitRec.afterReset, UnitRec.resetTo, selBay, lowestBay, Timer.zero, loadTimer, hpos, hspeed, havail, henable]

/-- A reset unit keeps nothing of its old record but its lines and its configuration. -/
theorem UnitRec.resetTo_congr {u v : UnitRec} (hpos : u.selPos = v.selPos) (havail : u.avail = v.avail)
    (hspeed : u.atSpeed = v.atSpeed) (c : UnitConfig) (q : Nat) : u.resetTo c q = v.resetTo c q := by
  simp only [UnitRec.resetTo, hpos, havail, hspeed]

/-- The uncommanded estimate by the position of the selector (R32). -/
theorem State.uncommandedEstimate_eq (s : State) (u : UnitRec) :
    s.uncommandedEstimate u =
      match u.selPos with
      | 0 => s.flowOf u 0
      | 1 => s.flowOf u 1
      | 2 => s.flowOf u 2
      | 3 =>
        max (if u.cfg.reach.get 0 = true then s.flowOf u 0 else 0)
          (max (if u.cfg.reach.get 1 = true then s.flowOf u 1 else 0)
            (if u.cfg.reach.get 2 = true then s.flowOf u 2 else 0)) := by
  have hreach : s.reachEstimate u =
      max (if u.cfg.reach.get 0 = true then s.flowOf u 0 else 0)
        (max (if u.cfg.reach.get 1 = true then s.flowOf u 1 else 0)
          (if u.cfg.reach.get 2 = true then s.flowOf u 2 else 0)) := by
    simp only [State.reachEstimate, districts, State.estimateAt_eq, List.foldr]
    split <;> split <;> split <;> simp
  unfold State.uncommandedEstimate
  match u.selPos with
  | 0 | 1 | 2 => exact s.estimateAt_eq u _
  | 3 => exact hreach

/-- Under reset records the head of a bay runs from the sill to its float level (R37). -/
theorem State.headOf_reset {s : State} (hstage : s.river.stage = none) {d : District}
    (hlevel : (s.bays.get d).levelUsed = (s.bays.get d).cfg.floatLevel) :
    s.headOf d = (max 0 (min 20000 (s.station.sill - (s.bays.get d).cfg.floatLevel))).toNat := by
  simp [State.headOf, hstage, hlevel]

/-- The blocks of the reset part before the units: what the heads of R37 are read from. -/
theorem State.flowOf_resetBlocks (s : State) (u : UnitRec) (d : District) :
    s.resetBlocks.flowOf u d =
      (s.resetBlocks.curves.get u.cfg.cls).flowAt
        (max 0 (min 20000 (s.resetBlocks.station.sill - (s.resetBlocks.bays.get d).cfg.floatLevel))).toNat := by
  rw [State.flowOf, State.headOf_reset (s := s.resetBlocks) rfl (by simp [State.resetBlocks, Bay.afterReset])]

theorem State.resetBlocks_unit (s : State) (i : UnitId) :
    s.resetBlocks.units.get i =
      (s.units.get i).resetTo (s.units.get i).cfg (s.resetBlocks.uncommandedEstimate (s.units.get i)) := by
  rw [← UnitRec.afterReset_eq]
  exact Oct.get_map _ _ i

/-- The blocks after a reset depend on the lines and on the working configuration alone. -/
theorem State.SameLines.resetBlocks_blocksReset {s t : State} (h : s.SameLines t) : s.BlocksReset t.resetBlocks where
  clock := rfl
  bays d := by simp [State.resetBlocks, Bay.afterReset, h.float]
  river := by simp [State.resetBlocks, River.afterReset, h.psel]
  units i := by
    have hunit := t.resetBlocks_unit i
    have hcfg : (t.resetBlocks.units.get i).cfg = (t.units.get i).cfg := by rw [hunit]; rfl
    rw [State.uncommandedEstimate_eq] at hunit
    simp only [State.flowOf_resetBlocks] at hunit
    rw [UnitRec.resetTo_congr (h.selPos i) (h.avail i) (h.atSpeed i), h.selPos i] at hunit
    rw [hcfg]
    exact hunit
  queues d := by simp [State.resetBlocks, resetQueue]
  disp := rfl
  notices p := by cases p <;> simp [State.resetBlocks, Ports.get, resetNoticePort, emptyLatches]
  ports p := by simp [State.resetBlocks, resetPort, h.selN]

/-- A reset of the blocks leaves the Configuration Store, the queue and SVC. -/
theorem State.resetBlocks_rest (s : State) :
    s.resetBlocks.working = s.working ∧ s.resetBlocks.store = s.store ∧ s.resetBlocks.resetN = s.resetN
    ∧ s.resetBlocks.svc = s.svc ∧ s.resetBlocks.pending = s.pending ∧ s.resetBlocks.freeDraws = s.freeDraws := by
  refine ⟨?_, rfl, rfl, rfl, rfl, rfl⟩
  simp only [State.working, WorkingConfig.mk.injEq]
  refine ⟨rfl, Oct.eq_of_get fun i => ?_, Tri.eq_of_get fun d => ?_, rfl⟩
  · rw [Oct.get_map, Oct.get_map, State.resetBlocks_unit]
    rfl
  · simp [State.resetBlocks, Bay.afterReset]

/-! ### STATION RESET (R190) -/

/-- Settles O38. -/
theorem stationResetAtTheRise : Obligations.StationResetAtTheRise := by
  refine ⟨fun chk s h => (State.takeFrame_accepts _ h).trans (congrArg _ (Reply.deliver_eq ..)),
    ?_⟩
  intro p n s x hup hsel hphase haction
  refine ⟨(s.setPort p (x.freed n)).resetBlocks, ?_, State.SameLines.resetBlocks_blocksReset ?_, ?_⟩
  · rw [exec_endOfTransaction n hup hsel hphase]
    change Host.Outcome.next (State.endOf _ p x.endAction _) = _
    rw [haction]
    rfl
  · refine ⟨fun _ => rfl, rfl, fun _ => rfl, fun _ => rfl, fun _ => rfl, fun q => ?_⟩
    by_cases h : q = p <;> simp [h, PortIf.freed]
  · obtain ⟨hworking, hstore, hresetN, hrest⟩ := (s.setPort p (x.freed n)).resetBlocks_rest
    exact ⟨hworking, hstore, hresetN.trans hup, hrest⟩

/-! ### Power-on and RESET_n (R189) -/

/-- A load moves no line, installs the stored image or the factory defaults, and clears a commit. -/
theorem State.loadConfig_spec (s : State) :
    s.SameLines s.loadConfig
    ∧ s.loadConfig.working = (match s.store.image with | .passing w => w | .failing => factoryConfig)
    ∧ s.loadConfig.store = { image := s.store.image, commit := none, defaulted := decide (s.store.image = .failing) }
    ∧ s.loadConfig.resetN = s.resetN ∧ s.loadConfig.svc = s.svc ∧ s.loadConfig.pending = s.pending
    ∧ s.loadConfig.freeDraws = s.freeDraws := by
  have hlines (w : WorkingConfig) (x : Store) : s.SameLines ((s.install w).setStore x) := by
    refine ⟨fun d => ?_, rfl, fun i => ?_, fun i => ?_, fun i => ?_, fun _ => rfl⟩ <;> simp [State.install]
  cases himage : s.store.image with
  | failing =>
    rw [State.loadConfig, himage]
    exact ⟨hlines _ _, s.working_install _, by simp [himage], rfl, rfl, rfl, rfl⟩
  | passing w =>
    rw [State.loadConfig, himage]
    exact ⟨hlines _ _, s.working_install _, by simp [himage], rfl, rfl, rfl, rfl⟩

/-- The end of a power-on or line reset: the configuration is loaded and every block reset. -/
theorem State.startUp_spec (s : State) :
    s.BlocksReset s.startUp
    ∧ s.startUp.working = (match s.store.image with | .passing w => w | .failing => factoryConfig)
    ∧ s.startUp.store = { image := s.store.image, commit := none, defaulted := decide (s.store.image = .failing) }
    ∧ s.startUp.resetN = true ∧ s.startUp.svc = s.svc ∧ s.startUp.pending = s.pending
    ∧ s.startUp.freeDraws = s.freeDraws := by
  obtain ⟨hlines, hworking, hstore, hresetN, hsvc, hpending, hdraws⟩ := State.loadConfig_spec { s with resetN := true }
  obtain ⟨hworking', hstore', hresetN', hsvc', hpending', hdraws'⟩ :=
    (State.loadConfig { s with resetN := true }).resetBlocks_rest
  have hsame : s.SameLines (State.loadConfig { s with resetN := true }) :=
    ⟨hlines.float, hlines.psel, hlines.selPos, hlines.avail, hlines.atSpeed, hlines.selN⟩
  exact ⟨hsame.resetBlocks_blocksReset, hworking'.trans hworking, hstore'.trans hstore, hresetN'.trans hresetN,
    hsvc'.trans hsvc, hpending'.trans hpending, hdraws'.trans hdraws⟩

/-- Settles O39. -/
theorem resetLoadsAndResetsTheBlocks : Obligations.ResetLoadsAndResetsTheBlocks := by
  intro s loaded starts held
  refine ⟨fun hup => ⟨s.startUp, ?_, s.startUp_spec⟩, fun hheld => ⟨s.startUp, ?_, s.startUp_spec⟩, fun hup => ?_,
    fun hheld => ?_, fun hup => ?_, fun hheld => ?_⟩
  · rw [exec_powerOn, if_pos hup]
  · rw [exec_resetNRise, if_neg (Bool.eq_false_iff.1 hheld)]
  · exact State.whileUp_up _ hup
  · rw [exec_powerOn, if_neg (Bool.eq_false_iff.1 hheld)]
    rfl
  · rw [exec_resetNRise, if_pos hup]
  · exact State.whileUp_held _ hheld

end Sys2Proof.Machine
end

section
/-! PROOFS of the reads (R104, R106, R146, R173, R175): settles O14, O16, O17, O25 and O26.

Each answer is a run of fields as in READ UNIT; records of one width behind a head are read by `readsAs_record`. -/

namespace Sys2Proof.Machine

/-! ### Runs of fields, continued (R1) -/

/-- A signed number as the unsigned one that its field holds (R1). -/
def signed (n : Nat) (v : Int) : Nat := (v.emod (256 ^ n : Nat)).toNat

theorem signed_mod (v : Int) (n : Nat) : ((signed n v % 256 ^ n : Nat) : Int) = v % (256 ^ n : Nat) := by
  have hpos : (0 : Int) < (256 ^ n : Nat) := by exact_mod_cast Nat.pow_pos (by decide)
  have hnonneg := Int.emod_nonneg v (Int.ne_of_gt hpos)
  rw [Int.natCast_emod, show ((signed n v : Nat) : Int) = v % (256 ^ n : Nat) from Int.toNat_of_nonneg hnonneg]
  exact Int.emod_emod_of_dvd v (Int.dvd_refl _)

/-- A byte that stands for itself is a field of width 1. -/
theorem singleton_eq_beBytes (b : Byte) : [b] = beBytes 1 b.toNat := by simp [beBytes]

theorem byte_mod (b : Byte) : b.toNat % 256 = b.toNat := Nat.mod_eq_of_lt b.isLt

theorem second_mod (t : Second) : t.toNat % 4294967296 = t.toNat := Nat.mod_eq_of_lt t.isLt

theorem layout_append (fs gs : List (Nat × Nat)) : layout (fs ++ gs) = layout fs ++ layout gs := List.flatMap_append

/-- A list of records is a run of the fields of each. -/
theorem flatMap_layout {α : Type} {bytes : α → List Byte} {f : α → List (Nat × Nat)}
    (h : ∀ x, bytes x = layout (f x)) (l : List α) : l.flatMap bytes = layout (l.flatMap f) :=
  (flatMap_pointwise h).trans (List.flatMap_assoc ..).symm

theorem ReadsAs.of_append {r : List Byte} {k : Nat} {fs gs : List (Nat × Nat)} (h : ReadsAs r k (fs ++ gs)) :
    ReadsAs r k fs := by
  induction fs generalizing k with
  | nil => trivial
  | cons f fs ih => exact ⟨h.1, ih h.2⟩

/-- The fields of one of many records of a width, behind the bytes `front`. -/
theorem readsAs_record {α : Type} {f : α → List (Nat × Nat)} {w : Nat} (hwidth : ∀ x, ((f x).map Prod.fst).sum = w)
    (front : List Byte) {l : List α} {k : Nat} {x : α} (hk : l[k]? = some x) :
    ReadsAs (front ++ layout (l.flatMap f)) (front.length + w * k) (f x) := by
  induction l generalizing front k with
  | nil => cases hk
  | cons y l ih =>
    cases k with
    | zero =>
      cases hk
      exact ReadsAs.of_append (readsAs_layout front ((x :: l).flatMap f))
    | succ k =>
      have hrest := ih (front ++ layout (f y)) hk
      rw [List.append_assoc, ← layout_append, List.length_append, length_layout, hwidth] at hrest
      rwa [show front.length + w * (k + 1) = front.length + w + w * k by rw [Nat.mul_succ]; omega, List.flatMap_cons]

/-! ### Codes of the fields -/

/-- The freshness of a report by its presence and age (R7, R20). -/
theorem freshnessOf_code (report : Option Int) (age : Nat) :
    (freshnessOf report.isSome age).code =
      if report = none ∨ 300 ≤ age then 2 else if 60 ≤ age then 1 else 0 := by
  unfold freshnessOf
  cases report with
  | none => rfl
  | some v =>
    by_cases h60 : age < 60
    · simp [h60, Freshness.code, show ¬300 ≤ age by omega, show ¬60 ≤ age by omega]
    · by_cases h300 : age < 300
      · simp [h60, h300, Freshness.code, show 60 ≤ age by omega]
      · simp [h60, h300, Freshness.code, show 300 ≤ age by omega]

theorem CapStatus.code_mod (c : CapStatus) :
    c.code % 256 = match c with | .live => 0 | .held => 1 | .fallback => 2 := by cases c <;> rfl

theorem closureCode_mod (c : Option ClosureOrigin) :
    closureCode c % 256 = match c with | none => 0 | some .reset => 1 | some .commanded => 2 := by
  match c with
  | none | some .reset | some .commanded => rfl

theorem urgency_mod (u : Option Urgency) :
    codeOrAbsent Urgency.code u % 256 = match u with
      | some .routine => 0 | some .high => 1 | some .emergency => 2 | none => 255 := by
  match u with
  | none | some .routine | some .high | some .emergency => rfl

theorem Urgency.code_mod (u : Urgency) :
    u.code % 256 = match u with | .routine => 0 | .high => 1 | .emergency => 2 := by cases u <;> rfl

theorem OrderState.code_mod (st : OrderState) :
    st.code % 256 = match st with | .queued => 0 | .active => 1 | .suspended => 2 := by cases st <;> rfl

theorem FinishKind.code_mod (k : FinishKind) :
    k.code % 256 = match k with | .done => 0 | .cancelled => 1 | .cut => 2 := by cases k <;> rfl

theorem FloatMode.code_mod (m : FloatMode) :
    m.code % 256 = match m with | .selfClearing => 0 | .latched => 1 := by cases m <;> rfl

/-- The budget field by the profile in force; 65,535 is no limit (R122, R173). -/
theorem State.budget_mod (s : State) :
    budgetCode s.budget % 65536 = match s.river.profile with
      | 0 => s.station.budgets.a0 % 65536 | 1 => s.station.budgets.a1 % 65536
      | 2 => s.station.budgets.a2 % 65536 | 3 => 65535 := by
  unfold State.budget
  match s.river.profile with
  | 0 | 1 | 2 | 3 => rfl

theorem State.spacing_mod (s : State) :
    s.spacing % 65536 = match s.river.profile with
      | 0 => s.station.spacings.a0 % 65536 | 1 => s.station.spacings.a1 % 65536
      | 2 => s.station.spacings.a2 % 65536 | 3 => 0 := by
  unfold State.spacing
  match s.river.profile with
  | 0 | 1 | 2 | 3 => rfl

/-! ### READ STATION (R173) -/

/-- The fields of READ STATION after the result code. -/
def State.stationFields (s : State) : List (Nat × Nat) :=
  [(4, s.clock.toNat), (1, boolCode s.store.defaulted), (1, boolCode s.committing), (1, boolCode s.svc), (2, s.river.cap),
    (1, s.river.capStatus.code), (2, s.river.silence), (1, closureCode s.river.closure), (1, s.river.profile.val),
    (1, s.river.pselSeen.val), (1, s.river.pselAge), (2, budgetCode s.budget), (2, s.spacing), (2, s.station.fallbackCap),
    (2, signed 2 s.station.sill), (1, boolCode s.river.stage.isSome), (2, signed 2 (s.river.stage.getD 0)),
    (2, s.river.stageAge), (1, s.river.stageFreshness.code), (2, signed 2 (s.river.stageUsed s.station.sill)),
    (1, boolCode s.disp.request)]

theorem State.stationBytes_eq_layout (s : State) : s.stationBytes = layout s.stationFields := by
  unfold State.stationBytes
  simp only [State.stationFields, layout_cons, layout_nil, byte1, List.append_assoc, List.append_nil]
  rfl

/-- The stage used: the report while it is FRESH or STALE, else the sill (R21). -/
theorem River.stageUsed_eq (r : River) (sill : Int) :
    r.stageUsed sill = if r.stageFreshness.code = 2 then sill else r.stage.getD 0 := by
  unfold River.stageUsed River.stageFreshness
  cases r.stage with
  | none => rfl
  | some v => cases freshnessOf (some v).isSome r.stageAge <;> rfl

theorem exec_readStation {s : State} {p : PortId} {chk : Byte} (h : s.accepts ⟨p, 0x05, [], chk⟩) :
    exec (.readStation p chk) s =
      .next ((s.heardOn p).answer ⟨p, 0x05, [], chk⟩ ([0x00] ++ layout (s.heardOn p).stationFields)) := by
  rw [← State.stationBytes_eq_layout]
  exact (State.takeFrame_accepts _ h).trans (congrArg _ (Reply.deliver_eq ..))

/-- Settles O14. -/
theorem readStationFields : Obligations.ReadStationFields := by
  intro p chk s haccepts h v flag fresh
  have hfresh : v.stageFreshness.code = fresh := freshnessOf_code v.stage v.stageAge
  refine ⟨_, exec_readStation haccepts, by simp [State.stationFields], fieldAt_cons_zero _ _, ?_⟩
  have hfields := readsAs_layout [0x00] h.stationFields
  generalize [0x00] ++ layout h.stationFields = r at hfields ⊢
  simp only [State.stationFields, ReadsAs, List.length_singleton, Nat.reduceAdd, Nat.reducePow] at hfields
  obtain ⟨hclock, hdefaulted, hcommit, hsvc, hcap, hstatus, hsilence, hclosure, hprofile, hseen, hage, hbudget, hspacing,
    hfallback, hsill, hpresent, hstage, hstageAge, hstageFresh, hused, hrequest, -⟩ := hfields
  have hsmall : fresh % 256 = fresh := by
    unfold fresh
    split
    · rfl
    · split <;> rfl
  have hsigned {n : Nat} {x : Int} (hn : n = signed 2 x % 65536) : (n : Int) = x % 65536 := by
    rw [hn]
    exact signed_mod x 2
  have hstageUsed : v.stageUsed h.station.sill = if fresh = 2 then h.station.sill else v.stage.getD 0 := by
    rw [River.stageUsed_eq, hfresh]
  exact ⟨hclock.trans (second_mod _), hdefaulted.trans (boolCode_mod _), hcommit.trans (boolCode_mod _),
    hsvc.trans (boolCode_mod _), hcap, hstatus.trans (CapStatus.code_mod _), hsilence, hclosure.trans (closureCode_mod _),
    hprofile.trans (Nat.mod_eq_of_lt (by omega)), hseen.trans (Nat.mod_eq_of_lt (by omega)), hage,
    hbudget.trans h.budget_mod, hspacing.trans h.spacing_mod, hfallback, hsigned hsill, hpresent.trans (boolCode_mod _),
    hsigned hstage, hstageAge, hstageFresh.trans ((congrArg (· % 256) hfresh).trans hsmall),
    (hsigned hused).trans (congrArg (· % 65536) hstageUsed), hrequest.trans (boolCode_mod _)⟩

/-! ### READ ALLOCATION (R146) -/

/-- The fields of one district row. -/
def Row.fields (w : Row) : List (Nat × Nat) :=
  [(1, boolCode w.demanding), (1, codeOrAbsent Urgency.code w.urgency), (1, w.weight), (2, w.entitlement), (4, w.use),
    (4, signed 4 w.deficit), (1, boolCode w.starved)]

/-- The fields of READ ALLOCATION between the result code and the rows. -/
def Dispatcher.headFields (x : Dispatcher) : List (Nat × Nat) :=
  [(1, boolCode x.lastEval.isSome), (4, (x.lastEval.getD 0).toNat), (2, x.capUsed), (2, budgetCode x.budgetUsed),
    (4, x.sums.commanded), (4, x.sums.uncommanded), (4, x.sums.rundown), (4, signed 4 x.sums.free),
    (2, x.sums.committedPower), (2, x.sums.rundownPower), (1, boolCode x.lastStart.isSome),
    (4, (x.lastStart.getD 0).toNat)]

theorem Row.bytes_eq_layout (w : Row) : w.bytes = layout w.fields := by
  unfold Row.bytes
  simp only [Row.fields, layout_cons, layout_nil, byte1, List.append_assoc, List.append_nil]
  rfl

theorem Dispatcher.bytes_eq_layout (x : Dispatcher) :
    x.bytes = layout x.headFields ++ layout (x.table.toList.flatMap Row.fields) := by
  rw [← flatMap_layout Row.bytes_eq_layout]
  unfold Dispatcher.bytes
  simp only [Dispatcher.headFields, layout_cons, layout_nil, byte1, List.append_assoc, List.append_nil]
  rfl

theorem exec_readAllocation {s : State} {p : PortId} {chk : Byte} (h : s.accepts ⟨p, 0x07, [], chk⟩) :
    exec (.readAllocation p chk) s =
      .next ((s.heardOn p).answer ⟨p, 0x07, [], chk⟩
        (([0x00] ++ layout s.disp.headFields) ++ layout (s.disp.table.toList.flatMap Row.fields))) := by
  rw [List.append_assoc, ← Dispatcher.bytes_eq_layout, show s.disp = (s.heardOn p).disp by cases p <;> rfl]
  exact (State.takeFrame_accepts _ h).trans (congrArg _ (Reply.deliver_eq ..))

theorem districtRow_getElem? {α : Type} (t : Tri α) (d : Fin 3) : t.toList[d.val]? = some (t.get d) := by
  match d with
  | 0 | 1 | 2 => rfl

/-- Settles O16. -/
theorem readAllocationFields : Obligations.ReadAllocationFields := by
  intro p chk s haccepts x flag
  have hsigned {n : Nat} {v : Int} (hn : n = signed 4 v % 4294967296) : (n : Int) = v % 4294967296 := by
    rw [hn]
    exact signed_mod v 4
  have hbudget : budgetCode x.budgetUsed = x.budgetUsed.getD 65535 := by cases x.budgetUsed <;> rfl
  have hhead := readsAs_layout [0x00] (x.headFields ++ x.table.toList.flatMap Row.fields)
  have hrow (d : District) := readsAs_record (f := Row.fields) (w := 14) (fun _ => rfl) ([0x00] ++ layout x.headFields)
    (districtRow_getElem? x.table d)
  rw [layout_append, ← List.append_assoc] at hhead
  have hlength : (([0x00] ++ layout x.headFields) ++ layout (x.table.toList.flatMap Row.fields)).length = 77 := by
    simp [Dispatcher.headFields, Tri.toList, Row.fields]
  refine ⟨_, exec_readAllocation haccepts, hlength, fieldAt_cons_zero _ _, ?_⟩
  have hfront : ([0x00] ++ layout x.headFields).length = 35 := by simp [Dispatcher.headFields]
  rw [hfront] at hrow
  generalize ([0x00] ++ layout x.headFields) ++ layout (x.table.toList.flatMap Row.fields) = r at hhead hrow ⊢
  replace hhead := hhead.of_append
  simp only [Dispatcher.headFields, ReadsAs, List.length_singleton, Nat.reduceAdd, Nat.reducePow] at hhead
  obtain ⟨hpresent, heval, hcap, hbudgetUsed, hcommanded, huncommanded, hrundown, hfree, hcommitted, hending, hstarted,
    hstart, -⟩ := hhead
  refine ⟨hpresent.trans (boolCode_mod _), heval.trans (second_mod _), hcap, hbudgetUsed.trans (by rw [hbudget]),
    hcommanded, huncommanded, hrundown, hsigned hfree, hcommitted, hending, hstarted.trans (boolCode_mod _),
    hstart.trans (second_mod _), ?_⟩
  intro d w o
  have hw := hrow d
  change ReadsAs r o w.fields at hw
  simp only [Row.fields, ReadsAs, Nat.add_assoc, Nat.reduceAdd, Nat.reducePow] at hw
  obtain ⟨hdemanding, hurgency, hweight, hentitlement, huse, hdeficit, hstarved, -⟩ := hw
  exact ⟨hdemanding.trans (boolCode_mod _), hurgency.trans (urgency_mod _), hweight, hentitlement, huse,
    hsigned hdeficit, hstarved.trans (boolCode_mod _)⟩

/-! ### READ BAY (R175) -/

/-- The fields of READ BAY between the result code and the flows. -/
def State.bayFields (s : State) (d : District) : List (Nat × Nat) :=
  let b := s.bays.get d
  [(1, boolCode b.reported.isSome), (2, signed 2 (b.reported.getD 0)), (2, b.age), (1, b.freshness.code),
    (1, boolCode b.floatInput), (1, boolCode b.floatDemand), (1, boolCode b.lowSuction), (2, signed 2 b.levelUsed),
    (2, s.headOf d), (2, signed 2 b.cfg.floor), (2, signed 2 b.cfg.floatLevel), (1, b.cfg.floatMode.code),
    (1, b.cfg.weight)]

/-- The flow of one class at the head of the bay. -/
def State.classFlow (s : State) (d : District) (c : ClassId) : List (Nat × Nat) :=
  [(2, (s.curves.get c).flowAt (s.headOf d))]

theorem State.headOf_le (s : State) (d : District) : s.headOf d ≤ 20000 := by
  unfold State.headOf
  dsimp only
  omega

theorem State.head_eq_headOf (s : State) (d : District) : s.head d = s.headOf d := by
  rw [State.head, State.outlet, River.stageUsed_eq, River.stageFreshness, freshnessOf_code, State.headOf, clampInt]
  by_cases h : s.river.stage = none ∨ 300 ≤ s.river.stageAge
  · simp [h]
  · by_cases h60 : 60 ≤ s.river.stageAge <;> simp [h, h60]

theorem State.bayBytes_eq_layout (s : State) (d : District) :
    s.bayBytes d = layout (s.bayFields d) ++ layout (classIds.flatMap (s.classFlow d)) := by
  have hflow (c : ClassId) : beBytes 2 (s.estimateAt c d) = layout (s.classFlow d c) := by
    simp [State.classFlow, State.estimateAt, State.head_eq_headOf]
  rw [← flatMap_layout hflow]
  unfold State.bayBytes
  simp only [State.bayFields, layout_cons, layout_nil, byte1, List.append_assoc, List.append_nil, State.head_eq_headOf]
  rfl

theorem bayOf_eq_none {n : Byte} (h : 2 < n.toNat) : bayOf n = none := dif_neg (by omega)

theorem bayOf_eq_some {n : Byte} {d : District} (h : n.toNat = d.val) : bayOf n = some d := by
  rw [bayOf, dif_pos (by omega)]
  exact congrArg some (Fin.ext h)

section ReadBay
variable {s : State} {p : PortId} {bay chk : Byte}

/-- READ BAY of no bay: BAD_VALUE and zeros. -/
theorem exec_readBay_bad (h : s.accepts ⟨p, 0x0B, [bay], chk⟩) (hbay : bayOf bay = none) :
    exec (.readBay p bay chk) s =
      .next ((s.heardOn p).answer ⟨p, 0x0B, [bay], chk⟩ (0x20 :: List.replicate 27 0)) := by
  refine (State.takeFrame_accepts _ h).trans ?_
  rw [hbay]
  exact congrArg _ (Reply.deliver_eq ..)

/-- READ BAY of a bay: OK and its record, with nothing in it that hearing the frame changes. -/
theorem exec_readBay_ok {d : District} (h : s.accepts ⟨p, 0x0B, [bay], chk⟩) (hbay : bayOf bay = some d) :
    exec (.readBay p bay chk) s =
      .next ((s.heardOn p).answer ⟨p, 0x0B, [bay], chk⟩
        (([0x00] ++ layout (s.bayFields d)) ++ layout (classIds.flatMap (s.classFlow d)))) := by
  refine (State.takeFrame_accepts _ h).trans ?_
  rw [hbay, List.append_assoc, ← State.bayBytes_eq_layout, show s.bayBytes d = (s.heardOn p).bayBytes d by cases p <;> rfl]
  exact congrArg _ (Reply.deliver_eq ..)

end ReadBay

theorem classIds_getElem? (c : ClassId) : classIds[c.val]? = some c := by
  match c with
  | 0 | 1 | 2 | 3 => rfl

/-- Settles O17. -/
theorem readBayFields : Obligations.ReadBayFields := by
  intro p bay chk s haccepts h flag
  refine ⟨fun hbad => exec_readBay_bad haccepts (bayOf_eq_none hbad), ?_⟩
  intro d hd b used head
  have hsigned {n : Nat} {v : Int} (hn : n = signed 2 v % 65536) : (n : Int) = v % 65536 := by
    rw [hn]
    exact signed_mod v 2
  have hfields := readsAs_layout [0x00] (s.bayFields d ++ classIds.flatMap (s.classFlow d))
  have hclass (c : ClassId) := readsAs_record (f := s.classFlow d) (w := 2) (fun _ => rfl)
    ([0x00] ++ layout (s.bayFields d)) (classIds_getElem? c)
  rw [layout_append, ← List.append_assoc] at hfields
  have hlength : (([0x00] ++ layout (s.bayFields d)) ++ layout (classIds.flatMap (s.classFlow d))).length = 28 := by
    simp [State.bayFields, classIds, State.classFlow]
  refine ⟨_, exec_readBay_ok haccepts (bayOf_eq_some hd), hlength, fieldAt_cons_zero _ _, ?_⟩
  have hfront : ([0x00] ++ layout (s.bayFields d)).length = 20 := by simp [State.bayFields]
  rw [hfront] at hclass
  generalize ([0x00] ++ layout (s.bayFields d)) ++ layout (classIds.flatMap (s.classFlow d)) = r at hfields hclass ⊢
  replace hfields := hfields.of_append
  simp only [State.bayFields, ReadsAs, List.length_singleton, Nat.reduceAdd, Nat.reducePow] at hfields
  obtain ⟨hpresent, hlevel, hage, hfresh, hinput, hdemand, hlow, hused, hhead, hfloor, hfloat, hmode, hweight, -⟩ := hfields
  have hheadSmall : s.headOf d % 65536 = head := Nat.mod_eq_of_lt (Nat.lt_of_le_of_lt (s.headOf_le d) (by decide))
  have hfreshCode : b.freshness.code % 256 = if b.reported = none ∨ 300 ≤ b.age then 2 else if 60 ≤ b.age then 1 else 0 := by
    rw [Bay.freshness, freshnessOf_code]
    split
    · rfl
    · split <;> rfl
  refine ⟨hpresent.trans (boolCode_mod _), hsigned hlevel, hage, hfresh.trans hfreshCode, hinput.trans (boolCode_mod _),
    hdemand.trans (boolCode_mod _), hlow.trans (boolCode_mod _), hsigned hused, hhead.trans hheadSmall, hsigned hfloor,
    hsigned hfloat, hmode.trans (FloatMode.code_mod _), hweight, fun c => (hclass c).1⟩

/-! ### READ QUEUE (R106) and READ COMPLETIONS (R104) -/

/-- The fields of one order. -/
def Order.fields (o : Order) : List (Nat × Nat) :=
  [(1, o.tag.toNat), (1, o.urgency.code), (1, o.state.code), (4, o.posted), (4, o.remaining), (4, o.postedAt.toNat),
    (4, o.deadline.getD 0)]

/-- The fields of one completion record. -/
def Completion.fields (r : Completion) : List (Nat × Nat) :=
  [(1, r.tag.toNat), (1, r.outcome.code), (4, r.posted), (4, r.remaining), (4, r.overshoot), (1, boolCode r.carried),
    (4, r.finishedAt.toNat)]

/-- The fields of READ QUEUE between the result code and the orders. -/
def OrderQueue.headFields (q : OrderQueue) : List (Nat × Nat) :=
  [(1, boolCode q.gateOpen), (1, q.orders.length), (1, q.completions.length), (4, q.unordered), (6, q.pumped)]

theorem Order.bytes_eq_layout (o : Order) : o.bytes = layout o.fields := by
  unfold Order.bytes
  simp only [Order.fields, layout_cons, layout_nil, byte1, singleton_eq_beBytes, List.append_assoc, List.append_nil]

theorem Completion.bytes_eq_layout (r : Completion) : r.bytes = layout r.fields := by
  unfold Completion.bytes
  simp only [Completion.fields, layout_cons, layout_nil, byte1, singleton_eq_beBytes, List.append_assoc, List.append_nil]

theorem OrderQueue.bytes_eq_layout (q : OrderQueue) :
    q.bytes = layout q.headFields ++ layout (q.orders.flatMap Order.fields) := by
  rw [← flatMap_layout Order.bytes_eq_layout]
  unfold OrderQueue.bytes
  simp only [OrderQueue.headFields, layout_cons, layout_nil, byte1, List.append_assoc, List.append_nil]

/-- Records of one width are as long as their number says. -/
theorem length_layout_flatMap {α : Type} {f : α → List (Nat × Nat)} {w : Nat} (hwidth : ∀ x, ((f x).map Prod.fst).sum = w)
    (l : List α) : (layout (l.flatMap f)).length = w * l.length := by
  induction l with
  | nil => rfl
  | cons x l ih => rw [List.flatMap_cons, layout_append, List.length_append, ih, length_layout, hwidth, List.length_cons,
      Nat.mul_succ, Nat.add_comm]

/-- Settles O25. -/
theorem readQueueFields : Obligations.ReadQueueFields := by
  intro d chk s haccepts q
  have hexec : exec (.readQueue (.district d) chk) s = .next (s.answer ⟨.district d, 0x26, [], chk⟩
      (([0x00] ++ layout q.headFields) ++ layout (q.orders.flatMap Order.fields))) := by
    rw [List.append_assoc, ← OrderQueue.bytes_eq_layout]
    exact State.takeFrame_onDistrict _ haccepts
  have hhead := readsAs_layout [0x00] (q.headFields ++ q.orders.flatMap Order.fields)
  have horder {k : Nat} {o : Order} (hk : q.orders[k]? = some o) :=
    readsAs_record (f := Order.fields) (w := 19) (fun _ => rfl) ([0x00] ++ layout q.headFields) hk
  have hfront : ([0x00] ++ layout q.headFields).length = 14 := by simp [OrderQueue.headFields]
  rw [layout_append, ← List.append_assoc] at hhead
  refine ⟨_, hexec, ?_, fieldAt_cons_zero _ _, ?_⟩
  · rw [List.length_append, hfront, length_layout_flatMap (f := Order.fields) (w := 19) (fun _ => rfl)]
  rw [hfront] at horder
  generalize ([0x00] ++ layout q.headFields) ++ layout (q.orders.flatMap Order.fields) = r at hhead horder ⊢
  replace hhead := hhead.of_append
  simp only [OrderQueue.headFields, ReadsAs, List.length_singleton, Nat.reduceAdd, Nat.reducePow] at hhead
  obtain ⟨hgate, horders, hcompletions, hunordered, hpumped, -⟩ := hhead
  refine ⟨hgate.trans (boolCode_mod _), horders, hcompletions, hunordered, hpumped, ?_⟩
  intro k o hk a
  have ho := horder hk
  change ReadsAs r a o.fields at ho
  simp only [Order.fields, ReadsAs, Nat.add_assoc, Nat.reduceAdd, Nat.reducePow] at ho
  obtain ⟨htag, hurgency, hstate, hposted, hremaining, hpostedAt, hdeadline, -⟩ := ho
  exact ⟨htag.trans (byte_mod _), hurgency.trans (Urgency.code_mod _), hstate.trans (OrderState.code_mod _), hposted,
    hremaining, hpostedAt.trans (second_mod _), hdeadline⟩

/-- Settles O26. -/
theorem readCompletionsReturnsTheOldest : Obligations.ReadCompletionsReturnsTheOldest := by
  intro d count chk s haccepts q n
  have hexec : exec (.readCompletions (.district d) count chk) s = .next
      ((s.setQueue d { q with readDrops := 0 }).answer ⟨.district d, 0x27, [count], chk⟩
        (([0x00] ++ byte1 n) ++ layout ((q.completions.take n).flatMap Completion.fields)) (.removeCompletions n)) := by
    rw [← flatMap_layout Completion.bytes_eq_layout]
    exact State.takeFrame_onDistrict _ haccepts
  have hlength : (q.completions.take n).length = n := by simp [n]
  have hcount : n < 256 := Nat.lt_of_le_of_lt (Nat.min_le_left _ _) count.isLt
  refine ⟨_, hexec, ?_, fieldAt_cons_zero _ _, ?_, ?_⟩
  · rw [List.length_append, length_layout_flatMap (f := Completion.fields) (w := 19) (fun _ => rfl), hlength]
    rfl
  · exact (fieldAt_beBytes_between [0x00] _ 1 1 n rfl).trans (Nat.mod_eq_of_lt hcount)
  · intro k c hk hget a
    have htake : (q.completions.take n)[k]? = some c := by rw [List.getElem?_take_of_lt hk, hget]
    have hc := readsAs_record (f := Completion.fields) (w := 19) (fun _ => rfl) ([0x00] ++ byte1 n) htake
    change ReadsAs _ a c.fields at hc
    generalize ([0x00] ++ byte1 n) ++ layout ((q.completions.take n).flatMap Completion.fields) = r at hc ⊢
    simp only [Completion.fields, ReadsAs, Nat.add_assoc, Nat.reduceAdd, Nat.reducePow] at hc
    obtain ⟨htag, hkind, hposted, hremaining, hovershoot, hcarried, hfinished, -⟩ := hc
    exact ⟨htag.trans (byte_mod _), hkind.trans (FinishKind.code_mod _), hposted, hremaining, hovershoot,
      hcarried.trans (boolCode_mod _), hfinished.trans (second_mod _)⟩

end Sys2Proof.Machine
end

section
/-! PROOFS of the configuration records (R25, R26, R186, R187): settles O18, O33 and O36.

The operands of a write give one record; read back in the layout of the write they are its arguments again. -/

namespace Sys2Proof.Machine

/-! ### The operands (R25, R186) -/

theorem classOf_eq_none {n : Byte} (h : 3 < n.toNat) : classOf n = none := dif_neg (by omega)

theorem classOf_eq_some {n : Byte} {c : ClassId} (h : n.toNat = c.val) : classOf n = some c := by
  rw [classOf, dif_pos (by omega)]
  exact congrArg some (Fin.ext h)

theorem yesNoOf_eq_none {n : Byte} (h : 1 < n.toNat) : yesNoOf n = none := by
  unfold yesNoOf
  split
  case h_3 => rfl
  all_goals omega

theorem yesNoOf_eq_some {n : Byte} (h : n.toNat ≤ 1) : yesNoOf n = some (decide (n.toNat = 1)) := by
  unfold yesNoOf
  split
  case h_1 h0 => simp [h0]
  case h_2 h1 => simp [h1]
  case h_3 h0 h1 =>
    have hcase : n.toNat = 0 ∨ n.toNat = 1 := by omega
    exact absurd hcase (by simpa using ⟨h0, h1⟩)

theorem floatModeOf_eq_none {n : Byte} (h : 1 < n.toNat) : floatModeOf n = none := by
  unfold floatModeOf
  split
  case h_3 => rfl
  all_goals omega

theorem floatModeOf_eq_some {n : Byte} (h : n.toNat ≤ 1) :
    floatModeOf n = some (if n.toNat = 0 then .selfClearing else .latched) := by
  unfold floatModeOf
  split
  case h_1 h0 => simp [h0]
  case h_2 h1 => simp [h1]
  case h_3 h0 h1 =>
    have hcase : n.toNat = 0 ∨ n.toNat = 1 := by omega
    exact absurd hcase (by simpa using ⟨h0, h1⟩)

/-- The three bits of a reach; all three zero is no reach. -/
theorem reachOf_eq (n : Byte) :
    reachOf n = if n.toNat % 8 = 0 then none else some ⟨n.getLsbD 0, n.getLsbD 1, n.getLsbD 2⟩ :=
  forall_byte (P := fun n =>
    reachOf n = if n.toNat % 8 = 0 then none else some ⟨n.getLsbD 0, n.getLsbD 1, n.getLsbD 2⟩) (by decide) n

/-- Bits 7 to 3 of a reach do not count; without them the byte is the code of the reach. -/
theorem reachCode_eq (n : Byte) : reachCode ⟨n.getLsbD 0, n.getLsbD 1, n.getLsbD 2⟩ = n.toNat % 8 :=
  forall_byte (P := fun n => reachCode ⟨n.getLsbD 0, n.getLsbD 1, n.getLsbD 2⟩ = n.toNat % 8) (by decide) n

/-! ### Records read back as arguments (R187) -/

theorem byte1_of_toNat {n : Byte} {v : Nat} (h : n.toNat = v) : byte1 v = [n] := by
  subst h
  simp

/-- The two's complement of a signed 16-bit number is the field it came from. -/
theorem beSigned_toInt (v : BitVec 16) : beSigned 2 v.toInt = field16 v := by
  have hmod : (v.toInt.emod (256 ^ 2 : Nat)).toNat = v.toNat := by
    have := v.isLt
    change (v.toInt % 65536).toNat = v.toNat
    rw [BitVec.toInt_eq_toNat_cond]
    split <;> omega
  rw [beSigned, hmod, field16]

theorem CurveClass.bytes_eq_args {a : CurveArgs} {c : ClassId} (hcls : a.cls.toNat = c.val) (hexact : curveClamped a = false) :
    (curveRecord a).bytes c = a.bytes := by
  simp only [curveClamped, Bool.or_eq_false_iff, bne_eq_false_iff_eq] at hexact
  obtain ⟨⟨⟨hheads, hflows⟩, hqMin⟩, hpower⟩ := hexact
  rw [CurveClass.bytes, hheads, hflows, hqMin, hpower, byte1_of_toNat hcls]
  simp [CurveArgs.bytes, Six.map, Six.toList, field16]

theorem StationConfig.bytes_eq_args {a : StationArgs} (hexact : stationClamped a = false) :
    (stationRecord a).bytes = a.bytes := by
  simp only [stationClamped, Bool.or_eq_false_iff, bne_eq_false_iff_eq] at hexact
  obtain ⟨⟨⟨hsill, hcap⟩, hbudgets⟩, hspacings⟩ := hexact
  rw [StationConfig.bytes, hsill, hcap, hbudgets, hspacings, beSigned_toInt]
  simp [StationArgs.bytes, Tri.map, Tri.toList, field16]

/-- The bay and the record of a WRITE BAY CONFIG that is taken. -/
theorem bayRecord_eq_some {a : BayArgs} {d : District} {c : BayConfig} (h : bayRecord a = some (d, c)) :
    a.bay.toNat = d.val ∧ a.floatMode.toNat = c.floatMode.code := by
  unfold bayRecord at h
  split at h
  case h_1 d' m hbay hmode =>
    dsimp only at h
    split at h
    · cases h
    · cases h
      constructor
      · unfold bayOf at hbay
        split at hbay
        · cases hbay
          rfl
        · cases hbay
      · unfold floatModeOf at hmode
        split at hmode
        case h_1 h0 => cases hmode; exact h0
        case h_2 h1 => cases hmode; exact h1
        case h_3 => cases hmode
  case h_2 => cases h

theorem BayConfig.bytes_eq_args {a : BayArgs} {d : District} {c : BayConfig} (h : bayRecord a = some (d, c))
    (hexact : bayClamped a c = false) : c.bytes d = a.bytes := by
  obtain ⟨hbay, hmode⟩ := bayRecord_eq_some h
  simp only [bayClamped, Bool.or_eq_false_iff, bne_eq_false_iff_eq] at hexact
  obtain ⟨⟨hfloor, hlevel⟩, hweight⟩ := hexact
  rw [BayConfig.bytes, hfloor, hlevel, byte1_of_toNat hbay, byte1_of_toNat hmode, byte1_of_toNat hweight.symm,
    beSigned_toInt, beSigned_toInt]
  simp [BayArgs.bytes]

/-- The unit and the codes of a WRITE UNIT CONFIG that is taken. -/
theorem unitRecord_eq_some {a : UnitArgs} {i : UnitId} {c : UnitConfig} (h : unitRecord a = some (i, c)) :
    a.unit.toNat = i.val ∧ a.enable.toNat = boolCode c.enable ∧ a.cls.toNat = c.cls.val
    ∧ a.reach.toNat % 8 = reachCode c.reach := by
  unfold unitRecord at h
  split at h
  case h_1 i' en cls r hunit henable hcls hreach =>
    cases h
    refine ⟨?_, ?_, ?_, ?_⟩
    · unfold unitOf at hunit
      split at hunit
      · cases hunit
        rfl
      · cases hunit
    · unfold yesNoOf at henable
      split at henable
      case h_1 h0 => cases henable; exact h0
      case h_2 h1 => cases henable; exact h1
      case h_3 => cases henable
    · unfold classOf at hcls
      split at hcls
      · cases hcls
        rfl
      · cases hcls
    · rw [reachOf_eq] at hreach
      split at hreach
      · cases hreach
      · cases hreach
        exact (reachCode_eq _).symm
  case h_2 => cases h

theorem UnitConfig.bytes_eq_args {a : UnitArgs} {i : UnitId} {c : UnitConfig} (h : unitRecord a = some (i, c))
    (hexact : unitClamped a c = false) (hbits : a.reach.toNat < 8) : c.bytes i = a.bytes := by
  obtain ⟨hunit, henable, hcls, hreach⟩ := unitRecord_eq_some h
  rw [Nat.mod_eq_of_lt hbits] at hreach
  simp only [unitClamped, Bool.or_eq_false_iff, bne_eq_false_iff_eq] at hexact
  obtain ⟨⟨⟨⟨⟨hrun, hrest⟩, hstarts⟩, hstart⟩, hstop⟩, htravel⟩ := hexact
  rw [UnitConfig.bytes, byte1_of_toNat hunit, byte1_of_toNat henable, byte1_of_toNat hcls, byte1_of_toNat hreach, hrun,
    hrest, byte1_of_toNat hstarts.symm, hstart, hstop, htravel]
  simp [UnitArgs.bytes, field16]

/-! ### READ CONFIG (R187) -/

theorem exec_readConfig {s : State} {p : PortId} {kind index chk : Byte} (h : s.accepts ⟨p, 0x65, [kind, index], chk⟩) :
    exec (.readConfig p kind index chk) s =
      .next ((s.heardOn p).answer ⟨p, 0x65, [kind, index], chk⟩ (s.configBytes kind index)) := by
  rw [show s.configBytes kind index = (s.heardOn p).configBytes kind index by cases p <;> rfl]
  exact (State.takeFrame_accepts _ h).trans (congrArg _ (Reply.deliver_eq ..))

/-- Settles O18. -/
theorem readConfigReturnsTheRecord : Obligations.ReadConfigReturnsTheRecord := by
  intro p kind index chk s h
  refine ⟨_, exec_readConfig h, fun hkind => ?_, ?_, ?_, ?_, ?_, ?_, ?_, ?_⟩
  · unfold State.configBytes
    split
    case h_5 => rfl
    all_goals omega
  · rintro rfl hindex
    simp only [State.configBytes, classOf_eq_none hindex]
    rfl
  · rintro rfl hindex
    simp only [State.configBytes, unitOf_eq_none hindex]
    rfl
  · rintro rfl hindex
    simp only [State.configBytes, bayOf_eq_none hindex]
    rfl
  · rintro rfl a c rfl hc hrecord hexact
    rw [← CurveClass.bytes_eq_args hc hexact, ← hrecord]
    simp only [State.configBytes, classOf_eq_some hc]
    rfl
  · rintro rfl a i c rfl hrecord rfl hexact hbits
    rw [← UnitConfig.bytes_eq_args hrecord hexact hbits]
    simp only [State.configBytes, unitOf_eq_some (unitRecord_eq_some hrecord).1]
    rfl
  · rintro rfl a d c rfl hrecord rfl hexact
    rw [← BayConfig.bytes_eq_args hrecord hexact]
    simp only [State.configBytes, bayOf_eq_some (bayRecord_eq_some hrecord).1]
    rfl
  · rintro rfl a hrecord hexact
    rw [← StationConfig.bytes_eq_args hexact, ← hrecord]
    rfl

/-! ### WRITE CURVE (R25, R26) -/

theorem clampNat_zero (hi v : Nat) : clampNat 0 hi v = min hi v := Nat.zero_max ..

/-- The clamped record, in the words of the claims (R25). -/
theorem curveRecord_eq (a : CurveArgs) :
    curveRecord a =
      { heads := a.heads.map fun v => min 20000 v.toNat, flows := a.flows.map fun v => min 12000 v.toNat
        qMin := min 12000 a.qMin.toNat, power := max 1 (min 4000 a.power.toNat) } := by
  simp only [curveRecord, clampNat_zero]
  rfl

theorem curveClamped_iff (a : CurveArgs) :
    curveClamped a = true ↔
      ¬((curveRecord a).heads = a.heads.map BitVec.toNat ∧ (curveRecord a).flows = a.flows.map BitVec.toNat
        ∧ (curveRecord a).qMin = a.qMin.toNat ∧ (curveRecord a).power = a.power.toNat) := by
  simp only [curveClamped, Bool.or_eq_true, bne_iff_ne, ne_eq, Classical.not_and_iff_not_or_not, or_assoc]

section WriteCurve
variable {s : State} {p : PortId} {a : CurveArgs} {chk : Byte}

theorem exec_writeCurve_bad (h : s.accepts ⟨p, 0x60, a.bytes, chk⟩) (hcls : classOf a.cls = none) :
    exec (.writeCurve p a chk) s = .next ((s.heardOn p).answer ⟨p, 0x60, a.bytes, chk⟩ [0x20]) := by
  refine (State.takeFrame_accepts _ h).trans ?_
  rw [hcls]
  exact congrArg _ (Reply.deliver_eq ..)

theorem exec_writeCurve_shapeless {c : ClassId} (h : s.accepts ⟨p, 0x60, a.bytes, chk⟩) (hcls : classOf a.cls = some c)
    (hshape : (curveRecord a).shapely = false) :
    exec (.writeCurve p a chk) s = .next ((s.heardOn p).answer ⟨p, 0x60, a.bytes, chk⟩ [0x26]) := by
  refine (State.takeFrame_accepts _ h).trans ?_
  rw [hcls]
  dsimp only
  rw [if_neg (Bool.eq_false_iff.1 hshape)]
  exact congrArg _ (Reply.deliver_eq ..)

theorem exec_writeCurve_taken {c : ClassId} (h : s.accepts ⟨p, 0x60, a.bytes, chk⟩) (hcls : classOf a.cls = some c)
    (hshape : (curveRecord a).shapely = true) :
    exec (.writeCurve p a chk) s =
      .next ((State.postAll { s.heardOn p with curves := (s.heardOn p).curves.set c (curveRecord a) } .configChanged).answer
        ⟨p, 0x60, a.bytes, chk⟩ [(okOrClamped (curveClamped a)).byte]) := by
  refine (State.takeFrame_accepts _ h).trans ?_
  rw [hcls]
  dsimp only
  rw [if_pos hshape]
  exact congrArg _ (Reply.deliver_eq ..)

end WriteCurve

/-- Settles O33. -/
theorem writeCurveReplacesTheRecord : Obligations.WriteCurveReplacesTheRecord := by
  intro p a chk s f haccepts h r shape exact
  have hr : curveRecord a = r := curveRecord_eq a
  have hshape : (curveRecord a).shapely = true ↔ shape := by rw [CurveClass.shapely_iff, hr]
  refine ⟨fun hbad => exec_writeCurve_bad haccepts (classOf_eq_none hbad), fun c hc => ⟨fun hno => ?_, fun hyes => ?_⟩⟩
  · exact exec_writeCurve_shapeless haccepts (classOf_eq_some hc) (by rw [Bool.eq_false_iff]; exact hno ∘ hshape.1)
  · have hcode : (okOrClamped (curveClamped a)).byte = if exact then 0x00 else 0x01 := by
      rw [okOrClamped_byte]
      by_cases hexact : exact
      · rw [if_pos hexact, if_neg (fun hc => (curveClamped_iff a).1 hc (hr ▸ hexact))]
      · rw [if_neg hexact, if_pos ((curveClamped_iff a).2 (hr ▸ hexact))]
    rw [exec_writeCurve_taken haccepts (classOf_eq_some hc) (hshape.2 hyes), hcode, hr]
    cases p <;> rfl

/-! ### WRITE STATION CONFIG (R116, R186) -/

/-- The clamped station items, in the words of the claims (R186). -/
theorem stationRecord_eq (a : StationArgs) :
    stationRecord a =
      { sill := max (-2000) (min 15000 a.sill.toInt), fallbackCap := min 60000 a.fallbackCap.toNat
        budgets := a.budgets.map fun v => min 20000 v.toNat, spacings := a.spacings.map fun v => min 600 v.toNat } := by
  simp only [stationRecord, clampCap, clampNat_zero]
  rfl

theorem stationClamped_iff (a : StationArgs) :
    stationClamped a = true ↔
      ¬((stationRecord a).sill = a.sill.toInt ∧ (stationRecord a).fallbackCap = a.fallbackCap.toNat
        ∧ (stationRecord a).budgets = a.budgets.map BitVec.toNat
        ∧ (stationRecord a).spacings = a.spacings.map BitVec.toNat) := by
  simp only [stationClamped, Bool.or_eq_true, bne_iff_ne, ne_eq, Classical.not_and_iff_not_or_not, or_assoc]

/-- The station items taken over: a FALLBACK cap falls to a lower fallback cap, with CAP_CHANGED (R116). -/
theorem State.configureStation_eq (s : State) (c : StationConfig) :
    s.configureStation c =
      if s.river.capStatus = .fallback ∧ c.fallbackCap < s.river.cap then
        State.postAll { s with station := c, river := { s.river with cap := c.fallbackCap } } .capChanged
      else { s with station := c } := by
  unfold State.configureStation
  by_cases hstatus : s.river.capStatus = .fallback
  · by_cases hlower : c.fallbackCap < s.river.cap
    · simp [hstatus, hlower, Nat.min_eq_right (Nat.le_of_lt hlower), State.setRiver]
    · simp [hstatus, hlower, Nat.min_eq_left (Nat.not_lt.1 hlower), State.setRiver]
      rw [← hstatus]
  · simp [hstatus]

/-- Settles O36. -/
theorem writeStationConfigTakesEffect : Obligations.WriteStationConfigTakesEffect := by
  intro p a chk s f haccepts h r exact lowers
  have hr : stationRecord a = r := stationRecord_eq a
  have hcode : (okOrClamped (stationClamped a)).byte = if exact then 0x00 else 0x01 := by
    rw [okOrClamped_byte]
    by_cases hexact : exact
    · rw [if_pos hexact, if_neg (fun hc => (stationClamped_iff a).1 hc (hr ▸ hexact))]
    · rw [if_neg hexact, if_pos ((stationClamped_iff a).2 (hr ▸ hexact))]
  have hexec : exec (.writeStationConfig p a chk) s =
      .next (((h.configureStation r).postAll .configChanged).answer f [if exact then 0x00 else 0x01]) := by
    rw [← hcode, ← hr]
    exact (State.takeFrame_accepts _ haccepts).trans (congrArg _ (Reply.deliver_eq ..))
  rw [hexec, State.configureStation_eq]
  by_cases hlowers : lowers
  · rw [if_pos (show h.river.capStatus = .fallback ∧ r.fallbackCap < h.river.cap from hlowers), if_pos hlowers]
    simp only [if_pos hlowers]
    rfl
  · rw [if_neg (show ¬(h.river.capStatus = .fallback ∧ r.fallbackCap < h.river.cap) from hlowers), if_neg hlowers]
    simp only [if_neg hlowers]
    rfl

end Sys2Proof.Machine
end

section
/-! PROOFS of chapter 1, the bays (R5 to R17): settles O20, O28, O35 and O52, and the bays of O42.

A recomputation is said once on the whole part (`State.applyBay_recompute`); what an event of a bay does to notice sets is
said kind by kind, since an event may post one kind and withdraw another. -/

namespace Sys2Proof.Machine

/-! ### An event of a bay on the part -/

section Apply
variable (s : State) (d : District)

/-- A recomputation carried out: level used and LOW_SUCTION, with the notice and the request of its change (R9, R16). -/
theorem State.applyBay_recompute (b : Bay) {used : Int} {low : Bool}
    (hused : levelUsedOf b.reported b.age b.floatInput b.cfg.floatLevel = used)
    (hlow : lowSuctionOf b.floatInput used b.cfg.floor b.lowSuction = low) :
    s.applyBay d b.recompute =
      { s with
        bays := s.bays.set d { b with levelUsed := used, lowSuction := low }
        notices :=
          if low = true ∧ b.lowSuction = false then
            s.notices.set (.district d) ((s.notices.get (.district d)).post .lowSuction)
          else s.notices
        disp := if low = b.lowSuction then s.disp else { s.disp with request := true } } := by
  rw [State.applyBay_eq, Bay.recompute_eq]
  simp only [hused, hlow]
  cases low <;> cases b.lowSuction <;> rfl

/-- What an event of a bay adds to the notice sets. -/
theorem State.holds_applyBay (e : BayEffect) (q : PortId) (k : NoticeKind) :
    holds ((s.applyBay d e).notices.get q).set k =
      (holds (s.notices.get q).set k || decide (k = .lowSuction ∧ q = .district d ∧ e.postSuction = true)) := by
  rw [State.applyBay_eq]
  cases e.postSuction <;> by_cases hq : q = .district d <;> simp [hq]

/-- A request is pending where it was, or where the event raises it (R126). -/
theorem State.applyBay_disp (e : BayEffect) :
    (s.applyBay d e).disp = { s.disp with request := s.disp.request || e.request } := by
  rw [State.applyBay_eq]
  cases e.request <;> simp

theorem State.applyBay_bays (e : BayEffect) : (s.applyBay d e).bays = s.bays.set d e.bay := by
  rw [State.applyBay_eq]

/-- What an event of a bay leaves. -/
theorem State.applyBay_rest (e : BayEffect) :
    { s.applyBay d e with bays := s.bays, disp := s.disp, notices := s.notices } = s := by
  rw [State.applyBay_eq]

/-! ### FLOAT_RISE withdrawn (R14) -/

theorem State.anyFloatDemand_eq_false : s.anyFloatDemand = false ↔ ∀ e, (s.bays.get e).floatDemand = false := by
  simp [State.anyFloatDemand, List.any_eq_false, mem_districts]

theorem State.holds_withdrawFloatRise (q : PortId) (k : NoticeKind) :
    holds ((s.withdrawFloatRise d).notices.get q).set k = true ↔
      holds (s.notices.get q).set k = true
        ∧ ¬(k = .floatRise ∧ (q = .district d ∨ (q = .river ∧ ∀ e, (s.bays.get e).floatDemand = false))) := by
  rw [← State.anyFloatDemand_eq_false, State.withdrawFloatRise]
  cases s.anyFloatDemand <;> by_cases hd : q = .district d <;> by_cases hr : q = .river <;> simp [hd, hr]

/-- Withdrawing, where it happens, touches the notice records alone. -/
theorem State.withdrawFloatRise_rest (c : Bool) :
    { s.onlyIf c (fun s => s.withdrawFloatRise d) with notices := s.notices } = s := by
  cases c
  · rfl
  · rw [State.onlyIf_true, State.withdrawFloatRise]
    cases s.anyFloatDemand <;> rfl

/-- What an event of a bay does to the notice sets that withdraws FLOAT_RISE where `c` says that it has ended float demand. -/
theorem State.holds_applyBay_withdraw {e : BayEffect} {c : Bool} (hends : c = true → e.bay.floatDemand = false) (q : PortId)
    (k : NoticeKind) :
    holds (((s.applyBay d e).onlyIf c fun s => s.withdrawFloatRise d).notices.get q).set k = true ↔
      (k = .lowSuction ∧ q = .district d ∧ e.postSuction = true)
      ∨ (holds (s.notices.get q).set k = true
          ∧ ¬(k = .floatRise ∧ c = true
              ∧ (q = .district d ∨ (q = .river ∧ ∀ e, e ≠ d → (s.bays.get e).floatDemand = false)))) := by
  cases c with
  | false => simp [State.holds_applyBay, or_comm]
  | true =>
    have hothers : (∀ x, ((s.applyBay d e).bays.get x).floatDemand = false)
        ↔ ∀ x, x ≠ d → (s.bays.get x).floatDemand = false := by
      rw [State.applyBay_bays]
      refine forall_congr' fun x => ?_
      by_cases hx : x = d <;> simp [hx, hends rfl]
    rw [State.onlyIf_true, State.holds_withdrawFloatRise, State.holds_applyBay, hothers]
    by_cases hk : k = .lowSuction
    · simp [hk, or_comm]
    · simp [hk]

/-- What an event of a bay leaves that may end float demand. -/
theorem State.applyBay_withdraw_rest (e : BayEffect) (c : Bool) :
    let t := (s.applyBay d e).onlyIf c fun s => s.withdrawFloatRise d
    t.bays = s.bays.set d e.bay ∧ t.disp = { s.disp with request := s.disp.request || e.request }
    ∧ { t with bays := s.bays, disp := s.disp, notices := s.notices } = s := by
  have hsame := (s.applyBay d e).withdrawFloatRise_rest d c
  refine ⟨(congrArg State.bays hsame).trans (s.applyBay_bays d e), (congrArg State.disp hsame).trans (s.applyBay_disp d e), ?_⟩
  exact (congrArg (fun t : State => { t with bays := s.bays, disp := s.disp, notices := s.notices }) hsame).trans
    (s.applyBay_rest d e)

end Apply

/-! ### REPORT LEVEL (R5) -/

/-- Settles O20. -/
theorem reportLevelTakesTheLevel : Obligations.ReportLevelTakesTheLevel := by
  intro d level chk s f haccepts b v used low
  have hcode : (okOrClamped (clampLevel level != level.toInt)).byte = if v = level.toInt then 0x00 else 0x01 := by
    rw [okOrClamped_byte]
    by_cases h : v = level.toInt
    · rw [if_pos h, if_neg (by rw [bne_iff_ne]; exact fun hne => hne h)]
    · rw [if_neg h, if_pos (by rw [bne_iff_ne]; exact h)]
  refine (State.takeFrame_onDistrict _ haccepts).trans ?_
  change Host.Outcome.next (State.answer (s.applyBay d (Bay.recompute { b with reported := some v, age := 0 })) f
    [(okOrClamped (clampLevel level != level.toInt)).byte]) = _
  rw [hcode, State.applyBay_recompute s d { b with reported := some v, age := 0 } (used := used) (low := low) rfl rfl]

/-! ### ACK FLOAT (R13) -/

section AckFloat
variable {s : State} {d : District} {chk : Byte}

theorem exec_ackFloat_refused (h : s.accepts ⟨.district d, 0x28, [], chk⟩) (hrefused : (s.bays.get d).ackRefused = true) :
    exec (.ackFloat (.district d) chk) s = .next (s.answer ⟨.district d, 0x28, [], chk⟩ [0x25]) := by
  refine (State.takeFrame_onDistrict _ h).trans ?_
  dsimp only
  rw [if_pos hrefused]
  rfl

theorem exec_ackFloat_taken (h : s.accepts ⟨.district d, 0x28, [], chk⟩) (htaken : (s.bays.get d).ackRefused = false) :
    exec (.ackFloat (.district d) chk) s =
      .next (((s.setBay d (s.bays.get d).acknowledge.1).onlyIf (s.bays.get d).acknowledge.2
        State.requestEvaluation).answer ⟨.district d, 0x28, [], chk⟩ [0x00]) := by
  refine (State.takeFrame_onDistrict _ h).trans ?_
  dsimp only
  rw [if_neg (Bool.eq_false_iff.1 htaken)]
  rfl

end AckFloat

/-- Settles O28. -/
theorem ackFloatEndsLatchedDemand : Obligations.AckFloatEndsLatchedDemand := by
  intro d chk s f haccepts b c
  have hkept : s.setBay d b = s := congrArg (fun bays => { s with bays := bays }) (Tri.set_get s.bays d)
  refine ⟨fun hmode hlow hdemand => ?_, fun hmode hlow hdemand => ?_, fun hmode hhigh => ?_, fun hmode => ?_⟩
  · have hack : b.acknowledge = ({ b with floatDemand := false }, true) := by
      simp [Bay.acknowledge, hmode, hlow, hdemand]
    refine (exec_ackFloat_taken haccepts (show b.ackRefused = false by simp [Bay.ackRefused, hlow])).trans ?_
    rw [show (s.bays.get d).acknowledge = _ from hack]
    rfl
  · have hack : b.acknowledge = (b, false) := by simp [Bay.acknowledge, hmode, hdemand]
    refine (exec_ackFloat_taken haccepts (show b.ackRefused = false by simp [Bay.ackRefused, hlow])).trans ?_
    rw [show (s.bays.get d).acknowledge = _ from hack, hkept]
    rfl
  · exact exec_ackFloat_refused haccepts (show b.ackRefused = true by simp [Bay.ackRefused, hmode, hhigh])
  · have hack : b.acknowledge = (b, false) := by simp [Bay.acknowledge, hmode]
    refine (exec_ackFloat_taken haccepts (show b.ackRefused = false by simp [Bay.ackRefused, hmode])).trans ?_
    rw [show (s.bays.get d).acknowledge = _ from hack, hkept]
    rfl

/-! ### The FLOAT line (R10 to R12, R14) -/

theorem exec_floatLineRise (d : District) (s : State) :
    exec (.floatLineRise d) s =
      s.lineChange (fun s => s.floatLevel d true) fun s => if (s.bays.get d).floatInput then s else s.floatRise d := rfl

theorem exec_floatLineFall (d : District) (s : State) :
    exec (.floatLineFall d) s =
      s.lineChange (fun s => s.floatLevel d false) fun s => if (s.bays.get d).floatInput then s.floatFall d else s := rfl

/-- Everything a rise does to the bay: float demand, and a clear LOW_SUCTION. -/
theorem Bay.floatRise_eq (b : Bay) :
    b.floatRise =
      { bay :=
          { b with
            floatInput := true, floatDemand := true
            levelUsed := levelUsedOf b.reported b.age true b.cfg.floatLevel, lowSuction := false }
        postSuction := false
        request := decide (b.cfg.floatMode = .selfClearing ∨ b.floatDemand = false ∨ b.lowSuction = true) } := by
  cases hmode : b.cfg.floatMode <;> cases hdemand : b.floatDemand <;> cases hlow : b.lowSuction <;>
    simp [Bay.floatRise, Bay.recompute_eq, Bay.demandAfterRise, lowSuctionOf, hmode, hdemand, hlow]

/-- Everything a fall does to the bay: in SELF_CLEARING mode float demand ends. -/
theorem Bay.floatFall_eq (b : Bay) :
    let used := levelUsedOf b.reported b.age false b.cfg.floatLevel
    let low := lowSuctionOf false used b.cfg.floor b.lowSuction
    b.floatFall =
      { bay :=
          { b with
            floatInput := false, floatDemand := if b.cfg.floatMode = .selfClearing then false else b.floatDemand
            levelUsed := used, lowSuction := low }
        postSuction := low && !b.lowSuction
        request := decide (b.cfg.floatMode = .selfClearing ∨ low ≠ b.lowSuction) } := by
  cases hmode : b.cfg.floatMode
  · simp [Bay.floatFall, Bay.recompute_eq, hmode]
  · simp only [Bay.floatFall, Bay.recompute_eq, hmode, reduceCtorEq, if_false, false_or, BayEffect.mk.injEq, true_and]
    rw [Bool.eq_iff_iff, bne_iff_ne, decide_eq_true_iff]

/-- A rise taken posts FLOAT_RISE to the port of the bay and to the river port. -/
theorem State.holds_floatRise (s : State) (d : District) (q : PortId) (k : NoticeKind) :
    holds ((s.floatRise d).notices.get q).set k =
      (holds (s.notices.get q).set k || decide (k = .floatRise ∧ (q = .district d ∨ q = .river))) := by
  have hpost : (s.bays.get d).floatRise.postSuction = false := by rw [Bay.floatRise_eq]
  by_cases hd : q = .district d <;> by_cases hr : q = .river <;>
    simp [State.floatRise, State.holds_applyBay, hpost, hd, hr]

/-- Settles O52. -/
theorem floatLineMovesDemand : Obligations.FloatLineMovesDemand := by
  intro d s b only self usedAt
  refine ⟨fun hheld => ⟨?_, ?_⟩, fun hup hhigh => ?_, fun hup hlow => ?_, fun hup hlow => ?_, fun hup hhigh => ?_⟩
  · rw [exec_floatLineRise, State.lineChange_held _ _ hheld]
    rfl
  · rw [exec_floatLineFall, State.lineChange_held _ _ hheld]
    rfl
  · rw [exec_floatLineRise, State.lineChange_up _ _ hup, if_pos hhigh]
  · rw [exec_floatLineFall, State.lineChange_up _ _ hup, if_neg (Bool.eq_false_iff.1 hlow)]
  · refine ⟨s.floatRise d, ?_, ?_, ?_, s.holds_floatRise d, ?_⟩
    · rw [exec_floatLineRise, State.lineChange_up _ _ hup, if_neg (Bool.eq_false_iff.1 hlow)]
    · rw [show (s.floatRise d).bays = _ from State.applyBay_bays s d _, Bay.floatRise_eq]
      rfl
    · rw [show (s.floatRise d).disp = _ from State.applyBay_disp s d _, Bay.floatRise_eq]
    · exact s.applyBay_rest d _
  · intro used low
    obtain ⟨hbays, hdisp, hrest⟩ := s.applyBay_withdraw_rest d b.floatFall (b.cfg.floatMode = .selfClearing)
    have hfall := Bay.floatFall_eq b
    refine ⟨s.floatFall d, ?_, hbays.trans (congrArg (fun e : BayEffect => s.bays.set d e.bay) hfall),
      hdisp.trans (congrArg (fun e : BayEffect => { s.disp with request := s.disp.request || e.request }) hfall),
      fun q k => ?_, hrest⟩
    · rw [exec_floatLineFall, State.lineChange_up _ _ hup, if_pos hhigh]
    · have hpost : b.floatFall.postSuction = (low && !b.lowSuction) := by rw [Bay.floatFall_eq]; rfl
      have hends : decide (b.cfg.floatMode = .selfClearing) = true → b.floatFall.bay.floatDemand = false := by
        intro hself
        rw [Bay.floatFall_eq]
        exact if_pos (of_decide_eq_true hself)
      refine (State.holds_applyBay_withdraw s d hends q k).trans ?_
      rw [hpost, Bool.and_eq_true, Bool.not_eq_true', decide_eq_true_iff]

/-! ### WRITE BAY CONFIG (R17, R186) -/

/-- Some operand of the write is refused (R186). -/
def BadBayArgs (a : BayArgs) : Prop :=
  2 < a.bay.toNat ∨ 1 < a.floatMode.toNat ∨ clampLevel a.floatLevel < clampLevel a.floor + 100

theorem bayRecord_bad {a : BayArgs} (h : BadBayArgs a) : bayRecord a = none := by
  unfold bayRecord
  split
  case h_1 d m hbay hmode =>
    rcases h with h | h | h
    · rw [bayOf_eq_none h] at hbay
      cases hbay
    · rw [floatModeOf_eq_none h] at hmode
      cases hmode
    · exact if_pos h
  case h_2 => rfl

theorem bayRecord_good {a : BayArgs} {d : District} (h : ¬BadBayArgs a) (hd : a.bay.toNat = d.val) :
    bayRecord a = some (d,
      { floor := clampLevel a.floor, floatLevel := clampLevel a.floatLevel
        floatMode := if a.floatMode.toNat = 0 then .selfClearing else .latched, weight := clampNat 1 15 a.weight.toNat }) := by
  obtain ⟨-, hmode, hlevel⟩ : ¬2 < a.bay.toNat ∧ ¬1 < a.floatMode.toNat
      ∧ ¬clampLevel a.floatLevel < clampLevel a.floor + 100 := by
    simpa only [BadBayArgs, not_or] using h
  unfold bayRecord
  rw [bayOf_eq_some hd, floatModeOf_eq_some (Nat.not_lt.1 hmode)]
  exact if_neg hlevel

theorem bayClamped_iff (a : BayArgs) (c : BayConfig) :
    bayClamped a c = true ↔ ¬(c.floor = a.floor.toInt ∧ c.floatLevel = a.floatLevel.toInt ∧ c.weight = a.weight.toNat) := by
  simp only [bayClamped, Bool.or_eq_true, bne_iff_ne, ne_eq, Classical.not_and_iff_not_or_not, or_assoc]

/-- Everything a configuration taken over does to the bay (R17). -/
theorem Bay.configure_eq (b : Bay) (c : BayConfig) {ends : Bool} {used : Int} {low : Bool}
    (hends : ends = decide (b.cfg.floatMode = .latched ∧ c.floatMode = .selfClearing ∧ b.floatDemand = true
      ∧ b.floatInput = false))
    (hused : used =
      if c.floor = b.cfg.floor ∧ c.floatLevel = b.cfg.floatLevel ∧ c.floatMode = b.cfg.floatMode then b.levelUsed
      else levelUsedOf b.reported b.age b.floatInput c.floatLevel)
    (hlow : low =
      if c.floor = b.cfg.floor ∧ c.floatLevel = b.cfg.floatLevel ∧ c.floatMode = b.cfg.floatMode then b.lowSuction
      else lowSuctionOf b.floatInput used c.floor b.lowSuction) :
    b.configure c =
      { bay := { b with cfg := c, floatDemand := b.floatDemand && !ends, levelUsed := used, lowSuction := low }
        postSuction := low && !b.lowSuction, request := low != b.lowSuction || ends } := by
  have hends' : (b.cfg.floatMode = .latched && c.floatMode = .selfClearing && b.floatDemand && !b.floatInput) = ends := by
    rw [hends, Bool.eq_iff_iff]
    simp [and_assoc]
  by_cases hsame : c.floor = b.cfg.floor ∧ c.floatLevel = b.cfg.floatLevel ∧ c.floatMode = b.cfg.floatMode
  · obtain ⟨hfloor, hlevel, hmode⟩ := hsame
    have hno : ends = false := by
      rw [hends, hmode, decide_eq_false_iff_not]
      rintro ⟨hl, hs, -⟩
      rw [hl] at hs
      cases hs
    rw [if_pos ⟨hfloor, hlevel, hmode⟩] at hused hlow
    simp only [Bay.configure, hends']
    rw [if_pos (by simp [hfloor, hlevel, hmode])]
    simp [hno, hused, hlow]
  · rw [if_neg hsame] at hused hlow
    have hsame' : ¬(c.floor = b.cfg.floor && c.floatLevel = b.cfg.floatLevel && c.floatMode = b.cfg.floatMode) = true := by
      simpa [and_assoc] using hsame
    simp only [Bay.configure, hends']
    rw [if_neg hsame', Bay.recompute_eq, hlow, hused]

/-- A bay configuration taken over, on the whole part (R14, R17). -/
theorem State.configureBay_spec (s : State) (d : District) (c : BayConfig) {ends : Bool} {used : Int} {low : Bool}
    (hends : ends = decide ((s.bays.get d).cfg.floatMode = .latched ∧ c.floatMode = .selfClearing
      ∧ (s.bays.get d).floatDemand = true ∧ (s.bays.get d).floatInput = false))
    (hconfigure : (s.bays.get d).configure c =
      { bay :=
          { s.bays.get d with
            cfg := c, floatDemand := (s.bays.get d).floatDemand && !ends, levelUsed := used, lowSuction := low }
        postSuction := low && !(s.bays.get d).lowSuction, request := low != (s.bays.get d).lowSuction || ends }) :
    (s.configureBay d c).bays = s.bays.set d
        { s.bays.get d with
          cfg := c, floatDemand := (s.bays.get d).floatDemand && !ends, levelUsed := used, lowSuction := low }
    ∧ (s.configureBay d c).disp
        = { s.disp with request := s.disp.request || (low != (s.bays.get d).lowSuction || ends) }
    ∧ (∀ q k, holds ((s.configureBay d c).notices.get q).set k = true ↔
        (k = .lowSuction ∧ q = .district d ∧ low = true ∧ (s.bays.get d).lowSuction = false)
        ∨ (holds (s.notices.get q).set k = true
            ∧ ¬(k = .floatRise ∧ ends = true
                ∧ (q = .district d ∨ (q = .river ∧ ∀ e, e ≠ d → (s.bays.get e).floatDemand = false)))))
    ∧ { s.configureBay d c with bays := s.bays, disp := s.disp, notices := s.notices } = s := by
  have hdemand : ends = true → (s.bays.get d).floatDemand = true := by
    intro h
    rw [hends, decide_eq_true_iff] at h
    exact h.2.2.1
  have hguard : ((s.bays.get d).floatDemand && !((s.bays.get d).floatDemand && !ends)) = ends := by
    cases hd : (s.bays.get d).floatDemand <;> cases he : ends
    case false.true => exact absurd (hdemand he) (by simp [hd])
    all_goals rfl
  unfold State.configureBay
  rw [hconfigure]
  dsimp only
  rw [hguard]
  obtain ⟨hbays, hdisp, hrest⟩ := s.applyBay_withdraw_rest d
    { bay :=
        { s.bays.get d with
          cfg := c, floatDemand := (s.bays.get d).floatDemand && !ends, levelUsed := used, lowSuction := low }
      postSuction := low && !(s.bays.get d).lowSuction, request := low != (s.bays.get d).lowSuction || ends } ends
  refine ⟨hbays, hdisp, fun q k => ?_, hrest⟩
  rw [State.holds_applyBay_withdraw s d (by simp +contextual), Bool.and_eq_true, Bool.not_eq_true']

section WriteBayConfig
variable {s : State} {p : PortId} {a : BayArgs} {chk : Byte}

theorem exec_writeBayConfig_bad (h : s.accepts ⟨p, 0x62, a.bytes, chk⟩) (hbad : bayRecord a = none) :
    exec (.writeBayConfig p a chk) s = .next ((s.heardOn p).answer ⟨p, 0x62, a.bytes, chk⟩ [0x20]) := by
  refine (State.takeFrame_accepts _ h).trans ?_
  rw [hbad]
  exact congrArg _ (Reply.deliver_eq ..)

theorem exec_writeBayConfig_taken {d : District} {c : BayConfig} (h : s.accepts ⟨p, 0x62, a.bytes, chk⟩)
    (hgood : bayRecord a = some (d, c)) :
    exec (.writeBayConfig p a chk) s =
      .next ((((s.heardOn p).configureBay d c).postAll .configChanged).answer ⟨p, 0x62, a.bytes, chk⟩
        [(okOrClamped (bayClamped a c)).byte]) := by
  refine (State.takeFrame_accepts _ h).trans ?_
  rw [hgood]
  exact congrArg _ (Reply.deliver_eq ..)

end WriteBayConfig

/-- Settles O35. -/
theorem writeBayConfigTakesEffect : Obligations.WriteBayConfigTakesEffect := by
  intro p a chk s f haccepts h floor level weight bad
  refine ⟨fun hbad => exec_writeBayConfig_bad haccepts (bayRecord_bad hbad), ?_⟩
  intro d hgood hd b mode ends same used low
  have hbays : h.bays = s.bays := s.heardOn_bays p
  have hdisp : h.disp = s.disp := by cases p <;> rfl
  have hrecord : bayRecord a = some (d, { floor := floor, floatLevel := level, floatMode := mode, weight := weight }) :=
    bayRecord_good hgood hd
  have hcode : (okOrClamped (bayClamped a { floor := floor, floatLevel := level, floatMode := mode, weight := weight })).byte
      = if floor = a.floor.toInt ∧ level = a.floatLevel.toInt ∧ weight = a.weight.toNat then 0x00 else 0x01 := by
    rw [okOrClamped_byte]
    by_cases hexact : floor = a.floor.toInt ∧ level = a.floatLevel.toInt ∧ weight = a.weight.toNat
    · rw [if_pos hexact, if_neg (fun hc => (bayClamped_iff a _).1 hc hexact)]
    · rw [if_neg hexact, if_pos ((bayClamped_iff a _).2 hexact)]
  have hspec := h.configureBay_spec d { floor := floor, floatLevel := level, floatMode := mode, weight := weight }
    (ends := ends) (used := used) (low := low) (by rw [hbays]) (by
      rw [hbays]
      exact b.configure_eq _ rfl rfl rfl)
  rw [hbays, hdisp] at hspec
  obtain ⟨hbay, hrequest, hholds, hrest⟩ := hspec
  refine ⟨(h.configureBay d { floor := floor, floatLevel := level, floatMode := mode, weight := weight }).postAll
    .configChanged, (exec_writeBayConfig_taken haccepts hrecord).trans (by rw [hcode]), hbay, ?_, fun q k => ?_, ?_⟩
  · rw [Bool.or_assoc]
    exact hrequest
  · simp only [State.postAll_notices, Ports.get_map, NoticePort.holds_post, Bool.or_eq_true, hholds, decide_eq_true_eq]
    exact or_comm
  · rw [hbays, hdisp]
    exact hrest

end Sys2Proof.Machine
end

section
/-! PROOFS about what a row leaves alone: settles O2.

`State.Serves s t`: from `s` to `t` only units, queues, Dispatcher and notices moved; an evaluation and the events of units and
queues do no more. `State.Carries s t`: the command queue and RESET_n stand; every row but a reset does that much. -/

namespace Sys2Proof.Machine

/-! ### Units, queues, Dispatcher and notices alone -/

/-- `t` is `s` but for units, queues, Dispatcher and notices. -/
structure State.Serves (s t : State) : Prop where
  same : { t with units := s.units, queues := s.queues, disp := s.disp, notices := s.notices } = s

section Serves
variable {s t u : State}

theorem State.Serves.refl : s.Serves s := ⟨rfl⟩

theorem State.Serves.trans (h : s.Serves t) (h' : t.Serves u) : s.Serves u :=
  ⟨(congrArg (fun x : State => { x with units := s.units, queues := s.queues, disp := s.disp, notices := s.notices })
    h'.same).trans h.same⟩

theorem State.Serves.onlyIf (h : s.Serves t) {c : Bool} {f : State → State} (hf : t.Serves (f t)) :
    s.Serves (t.onlyIf c f) := by
  cases c
  · exact h
  · exact h.trans hf

theorem State.Serves.foldl {ι : Type} {f : State → ι → State} (hf : ∀ (x : State) (i : ι), x.Serves (f x i)) (l : List ι)
    (h : s.Serves t) : s.Serves (l.foldl f t) := by
  induction l generalizing t with
  | nil => exact h
  | cons i l ih => exact ih (h.trans (hf t i))

theorem State.Serves.applyQueue (h : s.Serves t) (d : District) (e : QueueEffect) : s.Serves (t.applyQueue d e) :=
  h.trans ⟨by rw [State.applyQueue_eq]⟩

theorem State.Serves.applyUnit (h : s.Serves t) (i : UnitId) (e : UnitEffect) : s.Serves (t.applyUnit i e) :=
  h.trans ⟨(t.applyUnit_frame i e).2.1⟩

theorem State.Serves.stopUnit (h : s.Serves t) (why : StopReason) (i : UnitId) : s.Serves (t.stopUnit why i) :=
  h.applyUnit _ _

theorem State.Serves.stageEstimates (h : s.Serves t) : s.Serves t.stageEstimates :=
  .foldl (fun _ _ => State.Serves.refl.applyUnit _ _) _ h

theorem State.Serves.protectUnit (h : s.Serves t) (i : UnitId) : s.Serves (t.protectUnit i) := by
  unfold State.protectUnit
  dsimp only
  split
  · split
    · exact h.stopUnit _ _
    · split
      · exact h.stopUnit _ _
      · exact h
  · exact h

theorem State.Serves.stageProtective (h : s.Serves t) : s.Serves t.stageProtective :=
  .foldl (fun _ i => State.Serves.refl.protectUnit i) _ h

theorem State.Serves.shedLoop (h : s.Serves t) (shares : Tri Share) (why : StopReason) (exceeds : State → Bool)
    (key : State → UnitRec → Nat) (n : Nat) : s.Serves (State.shedLoop shares why exceeds key n t) := by
  induction n generalizing t with
  | zero => exact h
  | succ n ih =>
    unfold State.shedLoop
    split
    · split
      · exact h
      · exact ih (h.stopUnit _ _)
    · exact h

theorem State.Serves.stageShed (h : s.Serves t) (shares : Tri Share) : s.Serves (State.stageShed shares t) :=
  (h.shedLoop _ _ _ _ _).shedLoop _ _ _ _ _

theorem State.Serves.demandStopUnit (h : s.Serves t) (shares : Tri Share) (i : UnitId) :
    s.Serves (State.demandStopUnit shares t i) := by
  unfold State.demandStopUnit
  dsimp only
  split
  · exact h.stopUnit _ _
  · exact h

theorem State.Serves.stageDemand (h : s.Serves t) (shares : Tri Share) : s.Serves (State.stageDemand shares t) :=
  .foldl (fun _ i => State.Serves.refl.demandStopUnit shares i) _ h

theorem State.Serves.stageRebalance (h : s.Serves t) (shares : Tri Share) (hungry : Tri Bool) :
    s.Serves (State.stageRebalance shares hungry t) := by
  unfold State.stageRebalance
  split
  · split
    · exact h
    · split
      · exact h
      · exact h.stopUnit _ _
  · exact h

theorem State.Serves.sendStart (h : s.Serves t) (i : UnitId) : s.Serves (t.sendStart i) := by
  unfold State.sendStart
  dsimp only
  split
  · exact h.trans ⟨rfl⟩
  · exact h

theorem State.Serves.stageStart (h : s.Serves t) (shares : Tri Share) : s.Serves (State.stageStart shares t) := by
  unfold State.stageStart
  split
  · split
    · exact h
    · split
      · exact h
      · exact h.sendStart _
  · exact h

theorem State.Serves.switchFirst (h : s.Serves t) (shares : Tri Share) (ds : List District) :
    s.Serves (t.switchFirst shares ds) := by
  induction ds with
  | nil => exact h
  | cons d ds ih =>
    unfold State.switchFirst
    split
    · exact h.applyUnit _ _
    · exact ih

theorem State.Serves.record (h : s.Serves t) (shares : Tri Share) (hungry : Tri Bool) :
    s.Serves (State.record shares hungry t) := h.trans ⟨rfl⟩

theorem State.Serves.evaluate (h : s.Serves t) : s.Serves t.evaluate :=
  ((((((h.stageEstimates.stageProtective).stageShed _).stageDemand _).stageRebalance _ _).stageStart _).switchFirst
    _ _).record _ _

theorem State.Serves.evaluateIfDue (h : s.Serves t) : s.Serves t.evaluateIfDue := by
  unfold State.evaluateIfDue
  split
  · exact h.evaluate
  · exact h

theorem State.Serves.takeUnitDue (h : s.Serves t) (i : UnitId) : s.Serves (t.takeUnitDue i) :=
  (((((h.applyUnit i _).applyUnit i _).applyUnit i _).applyUnit i _).applyUnit i _).trans ⟨rfl⟩

theorem State.Serves.cutQueue (h : s.Serves t) (d : District) : s.Serves (t.cutQueue d) := h.applyQueue _ _

end Serves

/-! ### The command queue and RESET_n -/

/-- The command queue and RESET_n stand. -/
structure State.Carries (s t : State) : Prop where
  pending : t.pending = s.pending
  resetN : t.resetN = s.resetN

section Carries
variable {s t u : State}

theorem State.Carries.refl : s.Carries s := ⟨rfl, rfl⟩

theorem State.Carries.trans (h : s.Carries t) (h' : t.Carries u) : s.Carries u :=
  ⟨h'.pending.trans h.pending, h'.resetN.trans h.resetN⟩

theorem State.Serves.carries (h : s.Serves t) : s.Carries t := by
  have hpending := congrArg State.pending h.same
  have hreset := congrArg State.resetN h.same
  exact ⟨hpending, hreset⟩

theorem State.Carries.serves (h : s.Carries t) (h' : t.Serves u) : s.Carries u := h.trans h'.carries

theorem State.Carries.onlyIf (h : s.Carries t) {c : Bool} {f : State → State} (hf : ∀ x, s.Carries x → s.Carries (f x)) :
    s.Carries (t.onlyIf c f) := by
  cases c
  · exact h
  · exact hf t h

theorem State.Carries.foldl {ι : Type} {f : State → ι → State} (hf : ∀ (x : State) (i : ι), s.Carries x → s.Carries (f x i))
    (l : List ι) (h : s.Carries t) : s.Carries (l.foldl f t) := by
  induction l generalizing t with
  | nil => exact h
  | cons i l ih => exact ih (hf t i h)

theorem State.Carries.setRiver (h : s.Carries t) (r : River) : s.Carries (t.setRiver r) := ⟨h.pending, h.resetN⟩

theorem State.Carries.setStore (h : s.Carries t) (x : Store) : s.Carries (t.setStore x) := ⟨h.pending, h.resetN⟩

theorem State.Carries.postTo (h : s.Carries t) (p : PortId) (k : NoticeKind) : s.Carries (t.postTo p k) :=
  ⟨h.pending, h.resetN⟩

theorem State.Carries.postAll (h : s.Carries t) (k : NoticeKind) : s.Carries (t.postAll k) := ⟨h.pending, h.resetN⟩

theorem State.Carries.withdraw (h : s.Carries t) (p : PortId) (k : NoticeKind) : s.Carries (t.withdraw p k) :=
  ⟨h.pending, h.resetN⟩

theorem State.Carries.requestEvaluation (h : s.Carries t) : s.Carries t.requestEvaluation := ⟨h.pending, h.resetN⟩

theorem State.Carries.endClosure (h : s.Carries t) : s.Carries t.endClosure := ⟨h.pending, h.resetN⟩

theorem State.Carries.applyBay (h : s.Carries t) (d : District) (e : BayEffect) : s.Carries (t.applyBay d e) := by
  rw [State.applyBay_eq]
  exact ⟨h.pending, h.resetN⟩

theorem State.Carries.withdrawFloatRise (h : s.Carries t) (d : District) : s.Carries (t.withdrawFloatRise d) := by
  unfold State.withdrawFloatRise
  exact (h.withdraw _ _).onlyIf fun _ hx => hx.withdraw _ _

theorem State.Carries.floatRise (h : s.Carries t) (d : District) : s.Carries (t.floatRise d) :=
  ((h.applyBay d _).postTo _ _).postTo _ _

theorem State.Carries.floatFall (h : s.Carries t) (d : District) : s.Carries (t.floatFall d) := by
  unfold State.floatFall
  exact (h.applyBay d _).onlyIf fun _ hx => hx.withdrawFloatRise d

theorem State.Carries.ageBay (h : s.Carries t) (d : District) : s.Carries (t.ageBay d) := by
  unfold State.ageBay
  exact (h.applyBay d _).onlyIf fun _ hx => hx.postTo _ _

theorem State.Carries.ageStage (h : s.Carries t) : s.Carries t.ageStage := by
  unfold State.ageStage
  exact (h.setRiver _).onlyIf fun _ hx => hx.postTo _ _

theorem State.Carries.filterProfile (h : s.Carries t) : s.Carries t.filterProfile := by
  unfold State.filterProfile
  exact (h.setRiver _).onlyIf fun _ hx => hx.requestEvaluation

theorem State.Carries.fallback (h : s.Carries t) : s.Carries t.fallback := by
  unfold State.fallback
  exact ((h.setRiver _).onlyIf fun _ hx => hx.postAll _).onlyIf fun _ hx => hx.endClosure

theorem State.Carries.judgeSilence (h : s.Carries t) : s.Carries t.judgeSilence := by
  unfold State.judgeSilence
  dsimp only
  split
  · split
    · exact (h.setRiver _).fallback
    · split
      · exact ((h.setRiver _).setRiver _).postAll _
      · exact h.setRiver _
  · exact h

theorem State.Carries.endCommit (h : s.Carries t) (equal : Bool) : s.Carries (t.endCommit equal) := by
  unfold State.endCommit
  split
  · exact h
  · split
    · exact h
    · split
      · exact (h.setStore _).postAll _
      · exact (h.setStore _).postAll _

theorem State.Carries.endCommitFreely (h : s.Carries t) : s.Carries t.endCommitFreely := by
  have hdrawn : s.Carries { t with freeDraws := t.freeDraws + 1 } := ⟨h.pending, h.resetN⟩
  unfold State.endCommitFreely
  split
  · exact hdrawn.endCommit _
  · exact h

theorem State.Carries.takeDue (h : s.Carries t) : s.Carries t.takeDue := by
  have hwater := (State.Carries.foldl (fun _ d hx => hx.ageBay d) districts h.endCommitFreely).ageStage.judgeSilence
  have hunits := State.Carries.foldl (fun _ i hx => hx.serves (State.Serves.refl.takeUnitDue i)) unitIds hwater.filterProfile
  have hqueues := State.Carries.foldl (fun _ d hx => hx.serves (State.Serves.refl.cutQueue d)) districts hunits
  exact hqueues.serves State.Serves.refl.evaluateIfDue

theorem State.Carries.onUnit (h : s.Carries t) (i : UnitId) (f : UnitRec → UnitEffect) : s.Carries (t.onUnit i f) :=
  h.serves (State.Serves.refl.applyUnit i _)

theorem State.secondMark_pending (s : State) : s.secondMark.pending = s.pending := by
  have htick : ∀ t : State, t.tick.pending = t.pending := fun _ => rfl
  exact (htick _).trans (State.Carries.refl (s := s)).takeDue.pending

theorem State.endOf_pending (s : State) (p : PortId) (a : EndAction) (n : Nat) : (s.endOf p a n).pending = s.pending := by
  cases a <;> cases p <;> rfl

end Carries

/-! ### Every row (O2) -/

/-- What a row answers that the claim about the queue allows. -/
def AnswersSafely (s : State) (c : Instr) (o : Host.Outcome State Fault Refusal) : Prop :=
  match o with
  | .next t => c.wf = true ∧ t.pending = s.pending
  | .fault _ => False
  | .refused .illFormed => c.wf = false
  | .refused .otherPhase =>
    c.wf = true ∧ ∃ p ph, c.riseOf = some (p, ph) ∧ s.resetN = true ∧ (s.ports.get p).selN = false
      ∧ (s.ports.get p).phase ≠ ph
  | .refused (.notModelled _) => False

section Rows
variable {s : State} {c : Instr}

/-- Where a port takes no frame, or takes and answers one, the queue stands. -/
theorem answersSafely_frame {f : Frame} (hwf : c.wf = true) (hf : c.frame? = some f) : AnswersSafely s c (exec c s) := by
  obtain ⟨hheld, hidle, hanswering⟩ := frameOutsideReceiving c f s hwf hf
  cases hup : s.resetN with
  | false => rw [hheld hup]; exact ⟨hwf, rfl⟩
  | true =>
    cases hphase : (s.ports.get f.port).phase with
    | idle => rw [hidle hup hphase]; exact ⟨hwf, rfl⟩
    | answering => rw [hanswering hup hphase]; exact ⟨hwf, rfl⟩
    | receiving =>
      obtain ⟨t, r, a, hexec, hcases⟩ := exec_receives hwf hf ⟨hup, hphase⟩
      have hheard : (s.heardOn f.port).pending = s.pending := by cases f.port <;> rfl
      rw [hexec]
      refine ⟨hwf, ?_⟩
      rcases hcases with ⟨-, rfl, -⟩ | ⟨-, code, -, rfl, -⟩ | ⟨-, -, hpass⟩
      · rfl
      · exact hheard
      · exact hpass.pending.trans hheard

theorem answersSafely_whileUp {f : State → State} (hwf : c.wf = true) (hf : (f s).pending = s.pending) :
    AnswersSafely s c (s.whileUp f) := by
  refine ⟨hwf, ?_⟩
  cases s.resetN
  · rfl
  · exact hf

theorem answersSafely_lineChange {level act : State → State} (hwf : c.wf = true) (hlevel : (level s).pending = s.pending)
    (hact : (act s).pending = s.pending) : AnswersSafely s c (s.lineChange level act) := by
  refine ⟨hwf, ?_⟩
  cases s.resetN
  · exact hlevel
  · exact hact

theorem answersSafely_selRise {p : PortId} {ph : Phase} {act : State → State} (hwf : c.wf = true)
    (hrise : c.riseOf = some (p, ph)) (hact : (act s).pending = s.pending) :
    AnswersSafely s c (s.selRise p ph act) := by
  rcases s.selRise_cases p ph act with ⟨-, h⟩ | ⟨-, -, h⟩ | ⟨-, -, -, h⟩ | ⟨hup, hsel, hphase, h⟩ <;> rw [h]
  · exact ⟨hwf, rfl⟩
  · exact ⟨hwf, rfl⟩
  · exact ⟨hwf, hact⟩
  · exact ⟨hwf, p, ph, hrise, hup, hsel, hphase⟩

end Rows

/-- A line change of a unit whose level is held already does nothing; else the event of the unit follows. -/
theorem pending_unitLine (s : State) (i : UnitId) (c : Bool) (f : UnitRec → UnitEffect) :
    (if c then s else s.onUnit i f).pending = s.pending ∧ (if c then s.onUnit i f else s).pending = s.pending := by
  have hunit := (State.Carries.refl.onUnit (s := s) i f).pending
  cases c
  · exact ⟨hunit, rfl⟩
  · exact ⟨rfl, hunit⟩

/-- A reset keeps the queue. -/
theorem State.powerOn_pending (s : State) : s.powerOn.pending = s.pending := by
  unfold State.powerOn
  split
  · exact s.startUp_spec.2.2.2.2.2.1
  · rfl

theorem exec_answersSafely (c : Instr) (s : State) : AnswersSafely s c (exec c s) := by
  cases c
  case unknownCommand p code chk =>
    cases hwf : (Instr.unknownCommand p code chk).wf with
    | true => exact answersSafely_frame hwf rfl
    | false =>
      rw [show exec (.unknownCommand p code chk) s = .refused .illFormed from if_neg (Bool.eq_false_iff.1 hwf)]
      exact hwf
  case shortTransaction p bytes =>
    cases hshort : isShort bytes with
    | true =>
      rw [show exec (.shortTransaction p bytes) s = _ from if_pos hshort]
      exact answersSafely_selRise hshort rfl rfl
    | false =>
      rw [show exec (.shortTransaction p bytes) s = .refused .illFormed from if_neg (Bool.eq_false_iff.1 hshort)]
      exact hshort
  case endOfTransaction p n =>
    exact answersSafely_selRise (act := fun s => s.endAnswer p n) rfl rfl (State.endOf_pending ..)
  case selNRiseInIdle p => exact answersSafely_selRise (act := fun s => s.selLevel p true) rfl rfl rfl
  case powerOn => exact ⟨rfl, s.powerOn_pending⟩
  case resetNFall => exact answersSafely_whileUp rfl rfl
  case resetNRise =>
    refine ⟨rfl, ?_⟩
    split
    · rfl
    · exact s.startUp_spec.2.2.2.2.2.1
  case secondMark => exact answersSafely_whileUp (f := State.secondMark) rfl s.secondMark_pending
  case freshnessFall d => exact answersSafely_whileUp (f := (·.ageBay d)) rfl (State.Carries.refl.ageBay d).pending
  case stageFreshnessFall => exact answersSafely_whileUp rfl State.Carries.refl.ageStage.pending
  case capStatusHeld =>
    unfold exec execCapStatusHeld
    refine answersSafely_whileUp rfl ?_
    split
    · rfl
    · exact State.Carries.refl.judgeSilence.pending
  case fallbackEvent =>
    unfold exec execFallbackEvent
    refine answersSafely_whileUp rfl ?_
    split
    · rfl
    · exact State.Carries.refl.judgeSilence.pending
  case profileComesIntoForce => exact answersSafely_whileUp rfl State.Carries.refl.filterProfile.pending
  case runHoldExpiry i =>
    exact answersSafely_whileUp (f := (·.onUnit i UnitRec.runHoldExpiry)) rfl (State.Carries.refl.onUnit i _).pending
  case restExpiry i =>
    exact answersSafely_whileUp (f := fun s => s.onUnit i fun u => u.restExpiry s.clock) rfl
      (State.Carries.refl.onUnit i _).pending
  case startTimeoutExpiry i =>
    exact answersSafely_whileUp (f := fun s => s.onUnit i fun u => u.startTimeoutExpiry s.clock) rfl
      (State.Carries.refl.onUnit i _).pending
  case stopTimeoutExpiry i =>
    exact answersSafely_whileUp (f := fun s => s.onUnit i fun u => u.stopTimeoutExpiry s.clock) rfl
      (State.Carries.refl.onUnit i _).pending
  case travelTimeoutExpiry i =>
    exact answersSafely_whileUp (f := fun s => s.onUnit i fun u => u.travelTimeoutExpiry s.clock) rfl
      (State.Carries.refl.onUnit i _).pending
  case startHistoryAgeing i =>
    exact answersSafely_whileUp (f := fun s => s.setUnit i ((s.units.get i).ageHistory s.clock)) rfl rfl
  case deadlineExpiry d =>
    exact answersSafely_whileUp (f := (·.cutQueue d)) rfl (State.Serves.refl.cutQueue d).carries.pending
  case commitEnd equal =>
    exact answersSafely_whileUp (f := (·.endCommit equal)) rfl (State.Carries.refl.endCommit equal).pending
  case evaluation => exact answersSafely_whileUp rfl State.Serves.refl.evaluateIfDue.carries.pending
  case floatLineRise d =>
    rw [exec_floatLineRise]
    refine answersSafely_lineChange rfl rfl ?_
    split
    · rfl
    · exact (State.Carries.refl.floatRise d).pending
  case floatLineFall d =>
    rw [exec_floatLineFall]
    refine answersSafely_lineChange rfl rfl ?_
    split
    · exact (State.Carries.refl.floatFall d).pending
    · rfl
  case availRise i =>
    unfold exec execAvailRise
    exact answersSafely_lineChange rfl rfl (pending_unitLine s i _ _).1
  case availFall i =>
    unfold exec execAvailFall
    exact answersSafely_lineChange rfl rfl (pending_unitLine s i _ _).2
  case atspeedRise i =>
    unfold exec execAtspeedRise
    exact answersSafely_lineChange rfl rfl (pending_unitLine s i _ _).1
  case atspeedFall i =>
    unfold exec execAtspeedFall
    exact answersSafely_lineChange rfl rfl (pending_unitLine s i _ _).2
  case selposChange i pos =>
    unfold exec execSelposChange
    refine answersSafely_lineChange rfl rfl ?_
    split
    · rfl
    · exact (State.Carries.refl.onUnit i _).pending
  case pselChange code =>
    unfold exec execPselChange
    refine answersSafely_lineChange rfl rfl ?_
    split <;> rfl
  case svcChange high =>
    unfold exec execSvcChange
    exact answersSafely_lineChange rfl rfl rfl
  case selNFall p =>
    rw [exec_selNFall]
    refine answersSafely_lineChange rfl rfl ?_
    unfold State.selFall
    dsimp only
    split <;> rfl
  all_goals exact answersSafely_frame rfl rfl

/-- Settles O2. -/
theorem execKeepsTheQueueAndNeverFaults : Obligations.ExecKeepsTheQueueAndNeverFaults := exec_answersSafely

end Sys2Proof.Machine
end

section
/-! PROOFS about events of units: what carrying out an event does to queues and notices, each event of a unit in the words of
the claims, and the rows of the unit lines and timers. Settles O45 and O53 to O58. -/

namespace Sys2Proof.Machine

/-! ### Credits and notices of an event -/

/-- The district notices an event of a queue posts. -/
def QueueEffect.posts (e : QueueEffect) (k : NoticeKind) : Bool :=
  (e.finished && decide (k = .orderFinished)) || (e.overflowed && decide (k = .completionOverflow))

/-- The credits of an event of a unit that reach district `d`. -/
def UnitEffect.creditsTo (e : UnitEffect) (d : District) : List Nat :=
  match e.credit with
  | none => []
  | some (b, n) => if b = d then [n] else []

/-- Credits that reach the queues post this kind at this port. -/
def State.creditsPost (s : State) (credits : District → List Nat) (p : PortId) (k : NoticeKind) : Bool :=
  match p with
  | .river => false
  | .district d => ((s.queues.get d).takeCredits s.closed s.clock (credits d)).posts k

@[simp] theorem QueueEffect.posts_none (q : OrderQueue) (k : NoticeKind) : ({ queue := q } : QueueEffect).posts k = false := rfl

theorem State.holds_applyQueue (s : State) (d : District) (e : QueueEffect) (p : PortId) (k : NoticeKind) :
    holds ((s.applyQueue d e).notices.get p).set k
      = (holds (s.notices.get p).set k || (decide (p = .district d) && e.posts k)) := by
  rw [State.applyQueue_eq]
  by_cases hp : p = .district d
  · subst hp
    cases hf : e.finished <;> cases ho : e.overflowed <;> simp [QueueEffect.posts, hf, ho, Bool.or_assoc]
  · cases hf : e.finished <;> cases ho : e.overflowed <;> simp [hp]

theorem QueueEffect.posts_or {k : NoticeKind} (q : OrderQueue) (e f : QueueEffect) :
    ({ queue := q, finished := e.finished || f.finished, overflowed := e.overflowed || f.overflowed } : QueueEffect).posts k
      = (e.posts k || f.posts k) := by
  simp only [QueueEffect.posts, Bool.and_or_distrib_right]
  ac_rfl

/-- Credits in two runs. -/
theorem OrderQueue.takeCredits_append (q : OrderQueue) (closed : Bool) (now : Second) (cs ds : List Nat) :
    let e := q.takeCredits closed now cs
    (q.takeCredits closed now (cs ++ ds)).queue = (e.queue.takeCredits closed now ds).queue
    ∧ ∀ k, (q.takeCredits closed now (cs ++ ds)).posts k = (e.posts k || (e.queue.takeCredits closed now ds).posts k) := by
  induction cs generalizing q with
  | nil => simp
  | cons c cs ih =>
    obtain ⟨hqueue, hposts⟩ := ih (q.credit closed now c).queue
    refine ⟨hqueue, fun k => ?_⟩
    simp only [List.cons_append, OrderQueue.takeCredits_cons, QueueEffect.posts_or, hposts, Bool.or_assoc]

section Events
variable (s : State) (i : UnitId) (e : UnitEffect)

/-- An event of a unit credits the queues one by one. -/
theorem State.applyUnit_queue (d : District) :
    (s.applyUnit i e).queues.get d = ((s.queues.get d).takeCredits s.closed s.clock (e.creditsTo d)).queue := by
  have hsent : (s.applyUnit i e).queues = ((s.setUnit i e.unit).sendCredit e.credit).queues := by
    cases hoff : e.wentOffline <;> cases htrip : e.tripped <;> simp [State.applyUnit, hoff, htrip]
  rw [hsent, State.sendCredit_eq]
  cases hc : e.credit with
  | none => simp [UnitEffect.creditsTo, hc]
  | some c =>
    obtain ⟨b, n⟩ := c
    dsimp only
    rw [State.applyQueue_eq]
    by_cases hb : b = d
    · subst hb
      simp [UnitEffect.creditsTo, hc, State.closed]
    · simp [UnitEffect.creditsTo, hc, hb, Ne.symm hb]

/-- The notices of an event of a unit: what its credit finishes, UNIT_OFFLINE and UNIT_TRIP. -/
theorem State.holds_applyUnit (p : PortId) (k : NoticeKind) :
    holds ((s.applyUnit i e).notices.get p).set k
      = (holds (s.notices.get p).set k || s.creditsPost e.creditsTo p k || (e.wentOffline && decide (k = .unitOffline))
          || (e.tripped && decide (k = .unitTrip))) := by
  have hsent : holds (((s.setUnit i e.unit).sendCredit e.credit).notices.get p).set k
      = (holds (s.notices.get p).set k || s.creditsPost e.creditsTo p k) := by
    rw [State.sendCredit_eq]
    cases hc : e.credit with
    | none => cases p <;> simp [UnitEffect.creditsTo, State.creditsPost, hc]
    | some c =>
      obtain ⟨b, n⟩ := c
      simp only [State.holds_applyQueue]
      cases p with
      | river => simp [State.creditsPost]
      | district d =>
        by_cases hb : b = d
        · subst hb
          simp [UnitEffect.creditsTo, State.creditsPost, hc, State.closed]
        · simp [UnitEffect.creditsTo, State.creditsPost, hc, hb, Ne.symm hb]
  cases hoff : e.wentOffline <;> cases htrip : e.tripped <;>
    simp [State.applyUnit, hoff, htrip, hsent]

/-- An event that leaves the record as it is leaves the part as it is. -/
theorem State.applyUnit_same : s.applyUnit i { unit := s.units.get i } = s := by
  rw [State.applyUnit_of_no_credit _ _ _ rfl]
  simp

end Events

/-! ### Events of a unit in the words of the claims -/

section Records
variable {u : UnitRec} {now : Second}

theorem UnitRec.owes_standing (h : u.state ≠ .running) : u.owes now = 0 := by simp [UnitRec.owes, h]

/-- A trip of a unit that is not RUNNING sends no credit. -/
theorem UnitRec.trip_standing (h : u.state ≠ .running) (why : TripReason) :
    u.trip now why = { unit := u.trippedBy why, tripped := true } := by
  rw [UnitRec.trip_eq, UnitRec.owes_standing h]
  simp [h, UnitRec.trippedBy]

theorem UnitRec.goOffline_standing (h : u.state ≠ .running) (hp : ∀ c, u.pendingCfg = some c → c.enable = false) :
    u.goOffline now = { unit := u.outOfService, wentOffline := true } := by
  rw [UnitRec.goOffline_eq u now hp, UnitRec.owes_standing h]
  simp [h, UnitRec.outOfService]

/-- A departure from service where a pending enable of yes comes into force: the departure test follows at once (R84). -/
theorem UnitRec.goOffline_departs (h : u.state ≠ .running) {c : UnitConfig} (hp : u.pendingCfg = some c)
    (he : c.enable = true) :
    u.goOffline now = { u.outOfService.departureTest now with credit := none, wentOffline := true } := by
  simp [UnitRec.goOffline, UnitRec.closeCredit, UnitRec.clearTimers, UnitRec.adoptPending, UnitRec.outOfService, Timer.zero,
    h, hp, he]

theorem UnitRec.selBay_between {pos : Fin 4} : selBay pos = none ↔ pos = 3 := by
  revert pos
  decide

theorem UnitRec.selBay_at {pos : Fin 4} {b : District} : selBay pos = some b ↔ pos.val = b.val := by
  revert pos b
  decide

/-- The departure test passes with the selector at a bay (R43). -/
theorem UnitRec.departureTest_rests (hpass : u.avail = true ∧ u.cfg.enable = true ∧ u.atSpeed = false) {b : District}
    (hpos : u.selPos.val = b.val) : u.departureTest now = { unit := u.restingAt b } := by
  obtain ⟨havail, henable, hspeed⟩ := hpass
  simp [UnitRec.departureTest, havail, henable, hspeed, UnitRec.selBay_at.2 hpos, UnitRec.beginRestAt_eq]

/-- The departure test passes with the selector between positions (R43). -/
theorem UnitRec.departureTest_trips (hpass : u.avail = true ∧ u.cfg.enable = true ∧ u.atSpeed = false)
    (hpos : u.selPos = 3) : u.departureTest now = u.trip now .selector := by
  obtain ⟨havail, henable, hspeed⟩ := hpass
  simp [UnitRec.departureTest, havail, henable, hspeed, UnitRec.selBay_between.2 hpos]

/-- The departure test fails. -/
theorem UnitRec.departureTest_stays (hfail : ¬(u.avail = true ∧ u.cfg.enable = true ∧ u.atSpeed = false)) :
    u.departureTest now = { unit := u } := by
  refine if_neg ?_
  simpa [and_assoc] using hfail

theorem UnitRec.selectorAt_away {b : District} : u.selectorAt b = false ↔ u.selPos.val ≠ b.val := by
  rw [← Bool.not_eq_true, u.selectorAt_iff b]

/-- A pending configuration with enable no waits for the unit to be idle (R84). -/
def UnitRec.Leaves (u : UnitRec) : Prop := ∃ c, u.pendingCfg = some c ∧ c.enable = false

/-- The record of a unit that has entered IDLE (R56, R58, R84). -/
def UnitRec.idled (u : UnitRec) : UnitRec :=
  { u with
    state := .idle, runHold := { left := 0, due := false }, rest := { left := 0, due := false }
    stateTimer := { left := 0, due := false }, cfg := u.pendingCfg.getD u.cfg, pendingCfg := none }

theorem UnitRec.beginIdle_stays (h : ¬u.Leaves) : u.beginIdle now = { unit := u.idled } := by
  cases hp : u.pendingCfg with
  | none => simp [UnitRec.beginIdle, UnitRec.clearTimers, UnitRec.idled, Timer.zero, hp]
  | some c =>
    have henable : c.enable = true := by
      cases hc : c.enable with
      | true => rfl
      | false => exact absurd ⟨c, hp, hc⟩ h
    simp [UnitRec.beginIdle, UnitRec.clearTimers, UnitRec.adoptPending, UnitRec.idled, Timer.zero, hp, henable]

theorem UnitRec.beginIdle_leaves (h : u.Leaves) : u.beginIdle now = { unit := u.outOfService, wentOffline := true } := by
  obtain ⟨c, hp, hc⟩ := h
  simp [UnitRec.beginIdle, UnitRec.clearTimers, UnitRec.adoptPending, UnitRec.goOffline, UnitRec.closeCredit,
    UnitRec.outOfService, Timer.zero, hp, hc]

end Records

/-! ### Run-hold, rest and history (O45) -/

section Expiries
variable {s : State} {i : UnitId}

theorem exec_runHoldExpiry (i : UnitId) (s : State) :
    exec (.runHoldExpiry i) s = s.whileUp fun s => s.onUnit i UnitRec.runHoldExpiry := rfl

theorem exec_restExpiry (i : UnitId) (s : State) :
    exec (.restExpiry i) s = s.whileUp fun s => s.onUnit i fun u => u.restExpiry s.clock := rfl

theorem exec_startHistoryAgeing (i : UnitId) (s : State) :
    exec (.startHistoryAgeing i) s = s.whileUp fun s => s.setUnit i ((s.units.get i).ageHistory s.clock) := rfl

/-- While the part is up a row does what its event does; where that is nothing, held or up, the part stays. -/
theorem State.whileUp_nothing {f : State → State} (h : s.resetN = true → f s = s) : s.whileUp f = .next s := by
  cases hup : s.resetN with
  | false => exact State.whileUp_held f hup
  | true => rw [State.whileUp_up f hup, h hup]

/-- An event of a unit that leaves its record. -/
theorem State.onUnit_same {f : UnitRec → UnitEffect} (h : f (s.units.get i) = { unit := s.units.get i }) :
    s.onUnit i f = s := by
  rw [State.onUnit, h, State.applyUnit_same]

/-- An event of a unit that does no more than replace its record. -/
theorem State.onUnit_record {f : UnitRec → UnitEffect} {u : UnitRec} (h : f (s.units.get i) = { unit := u }) :
    s.onUnit i f = { s with units := s.units.set i u } := by
  rw [State.onUnit, h]
  rfl

/-- An event of a unit that takes it out of service without a credit. -/
theorem State.onUnit_offline {f : UnitRec → UnitEffect} {u : UnitRec}
    (h : f (s.units.get i) = { unit := u, wentOffline := true }) :
    s.onUnit i f = s.unitTo i u (·.post .unitOffline) false := by
  rw [State.onUnit, h]
  rfl

/-- An event of a unit that trips it without a credit. -/
theorem State.onUnit_tripped {f : UnitRec → UnitEffect} {u : UnitRec}
    (h : f (s.units.get i) = { unit := u, tripped := true }) :
    s.onUnit i f = s.unitTo i u (·.post .unitTrip) true := by
  rw [State.onUnit, h]
  rfl

theorem UnitRec.restExpiry_resting {u : UnitRec} {now : Second} (hdue : u.rest.due = true) (h : u.state = .resting) :
    u.restExpiry now = ({ u with rest := .zero } : UnitRec).beginIdle now := by
  simp [UnitRec.restExpiry, hdue, h]

/-- Settles O45. -/
theorem holdRestAndHistoryEnd : Obligations.HoldRestAndHistoryEnd := by
  intro i s u zero idle leaves
  rw [exec_runHoldExpiry, exec_restExpiry, exec_startHistoryAgeing]
  refine ⟨fun h => ?_, fun hup hdue => ?_, fun h => ?_, fun hup hdue hstate => ?_, fun hup hdue hstate hstays => ?_,
    fun hup hdue hstate hleaves => ?_, fun t ts hup hhist hold => ?_, fun h => ?_⟩
  · refine State.whileUp_nothing fun hup => State.onUnit_same ?_
    have hdue : u.runHold.due = false := h.resolve_right (by simp [hup])
    exact if_neg (Bool.eq_false_iff.1 hdue)
  · rw [State.whileUp_up _ hup]
    exact congrArg _ (State.onUnit_record (if_pos hdue))
  · refine State.whileUp_nothing fun hup => State.onUnit_same ?_
    have hdue : u.rest.due = false := h.resolve_right (by simp [hup])
    exact if_neg (Bool.eq_false_iff.1 hdue)
  · rw [State.whileUp_up _ hup]
    exact congrArg _ (State.onUnit_record ((if_pos hdue).trans (if_neg hstate)))
  · rw [State.whileUp_up _ hup]
    exact congrArg _ (State.onUnit_record ((UnitRec.restExpiry_resting hdue hstate).trans (UnitRec.beginIdle_stays hstays)))
  · rw [State.whileUp_up _ hup]
    exact congrArg _ (State.onUnit_offline ((UnitRec.restExpiry_resting hdue hstate).trans (UnitRec.beginIdle_leaves hleaves)))
  · rw [State.whileUp_up _ hup]
    have haged : u.ageHistory s.clock = { u with history := ts } := by
      rw [UnitRec.ageHistory, hhist]
      exact if_pos hold
    exact congrArg (fun v => Host.Outcome.next (s.setUnit i v)) haged
  · refine State.whileUp_nothing fun hup => ?_
    have hyoung := h.resolve_left (by simp [hup])
    have hsame : u.ageHistory s.clock = u := by
      unfold UnitRec.ageHistory
      split
      · rfl
      · next t ts hhist => exact if_neg (Nat.not_le.2 (hyoung t ts hhist))
    exact (congrArg (s.setUnit i) hsame).trans (by simp [State.setUnit, u])

end Expiries

end Sys2Proof.Machine
end

section
/-! PROOFS about the lines and the state timers of the units: each row taken to the event of its unit. Settles O53 to O58. -/

namespace Sys2Proof.Machine

/-! ### The rows -/

section Rows
variable {s : State} {i : UnitId}

/-- The part with the record of unit `i` replaced. -/
def State.unitSet (s : State) (i : UnitId) (u : UnitRec) : State := { s with units := s.units.set i u }

theorem exec_availRise (i : UnitId) (s : State) :
    (s.resetN = false → exec (.availRise i) s = .next (s.unitSet i { s.units.get i with avail := true }))
    ∧ (s.resetN = true → (s.units.get i).avail = true → exec (.availRise i) s = .next s)
    ∧ (s.resetN = true → (s.units.get i).avail = false →
        exec (.availRise i) s = .next (s.onUnit i fun u => u.availRise s.clock)) := by
  rw [show exec (.availRise i) s = execAvailRise i s from rfl, execAvailRise]
  refine ⟨fun h => State.lineChange_held _ _ h, fun hup h => ?_, fun hup h => ?_⟩
  · rw [State.lineChange_up _ _ hup, if_pos h]
  · rw [State.lineChange_up _ _ hup, if_neg (by simp [h])]

theorem exec_availFall (i : UnitId) (s : State) :
    (s.resetN = false → exec (.availFall i) s = .next (s.unitSet i { s.units.get i with avail := false }))
    ∧ (s.resetN = true → (s.units.get i).avail = false → exec (.availFall i) s = .next s)
    ∧ (s.resetN = true → (s.units.get i).avail = true →
        exec (.availFall i) s = .next (s.onUnit i fun u => u.availFall s.clock)) := by
  rw [show exec (.availFall i) s = execAvailFall i s from rfl, execAvailFall]
  refine ⟨fun h => State.lineChange_held _ _ h, fun hup h => ?_, fun hup h => ?_⟩
  · rw [State.lineChange_up _ _ hup, if_neg (by simp [h])]
  · rw [State.lineChange_up _ _ hup, if_pos h]

theorem exec_atspeedRise (i : UnitId) (s : State) :
    (s.resetN = false → exec (.atspeedRise i) s = .next (s.unitSet i { s.units.get i with atSpeed := true }))
    ∧ (s.resetN = true → (s.units.get i).atSpeed = true → exec (.atspeedRise i) s = .next s)
    ∧ (s.resetN = true → (s.units.get i).atSpeed = false →
        exec (.atspeedRise i) s = .next (s.onUnit i fun u => u.atSpeedRise s.clock)) := by
  rw [show exec (.atspeedRise i) s = execAtspeedRise i s from rfl, execAtspeedRise]
  refine ⟨fun h => State.lineChange_held _ _ h, fun hup h => ?_, fun hup h => ?_⟩
  · rw [State.lineChange_up _ _ hup, if_pos h]
  · rw [State.lineChange_up _ _ hup, if_neg (by simp [h])]

theorem exec_atspeedFall (i : UnitId) (s : State) :
    (s.resetN = false → exec (.atspeedFall i) s = .next (s.unitSet i { s.units.get i with atSpeed := false }))
    ∧ (s.resetN = true → (s.units.get i).atSpeed = false → exec (.atspeedFall i) s = .next s)
    ∧ (s.resetN = true → (s.units.get i).atSpeed = true →
        exec (.atspeedFall i) s = .next (s.onUnit i fun u => u.atSpeedFall s.clock)) := by
  rw [show exec (.atspeedFall i) s = execAtspeedFall i s from rfl, execAtspeedFall]
  refine ⟨fun h => State.lineChange_held _ _ h, fun hup h => ?_, fun hup h => ?_⟩
  · rw [State.lineChange_up _ _ hup, if_neg (by simp [h])]
  · rw [State.lineChange_up _ _ hup, if_pos h]

theorem exec_selposChange (i : UnitId) (pos : Fin 4) (s : State) :
    (s.resetN = false → exec (.selposChange i pos) s = .next (s.unitSet i { s.units.get i with selPos := pos }))
    ∧ (s.resetN = true → (s.units.get i).selPos = pos → exec (.selposChange i pos) s = .next s)
    ∧ (s.resetN = true → (s.units.get i).selPos ≠ pos →
        exec (.selposChange i pos) s = .next (s.onUnit i fun u => u.selPosChange s.clock pos)) := by
  rw [show exec (.selposChange i pos) s = execSelposChange i pos s from rfl, execSelposChange]
  refine ⟨fun h => State.lineChange_held _ _ h, fun hup h => ?_, fun hup h => ?_⟩
  · rw [State.lineChange_up _ _ hup, if_pos h]
  · rw [State.lineChange_up _ _ hup, if_neg h]

theorem exec_startTimeoutExpiry (i : UnitId) (s : State) :
    exec (.startTimeoutExpiry i) s = s.whileUp fun s => s.onUnit i fun u => u.startTimeoutExpiry s.clock := rfl

theorem exec_stopTimeoutExpiry (i : UnitId) (s : State) :
    exec (.stopTimeoutExpiry i) s = s.whileUp fun s => s.onUnit i fun u => u.stopTimeoutExpiry s.clock := rfl

theorem exec_travelTimeoutExpiry (i : UnitId) (s : State) :
    exec (.travelTimeoutExpiry i) s = s.whileUp fun s => s.onUnit i fun u => u.travelTimeoutExpiry s.clock := rfl

end Rows

/-! ### Lines that the state does not name (O56) -/

section Unnamed
variable {u : UnitRec} {now : Second} {pos : Fin 4}

theorem UnitRec.availRise_unnamed (h : u.state ≠ .offline) : u.availRise now = { unit := { u with avail := true } } := by
  unfold UnitRec.availRise
  cases hstate : u.state
  case offline => exact absurd hstate h
  all_goals rfl

theorem UnitRec.availFall_unnamed (h : u.state = .offline ∨ u.state = .stopping ∨ u.state = .tripped) :
    u.availFall now = { unit := { u with avail := false } } := by
  unfold UnitRec.availFall
  rcases h with h | h | h <;> rw [h]

theorem UnitRec.atSpeedRise_unnamed
    (h : u.state = .running ∨ u.state = .stopping ∨ u.state = .offline ∨ u.state = .tripped) :
    u.atSpeedRise now = { unit := { u with atSpeed := true } } := by
  unfold UnitRec.atSpeedRise
  rcases h with h | h | h | h <;> rw [h]

theorem UnitRec.atSpeedFall_unnamed (h : u.state ≠ .running ∧ u.state ≠ .stopping ∧ u.state ≠ .offline) :
    u.atSpeedFall now = { unit := { u with atSpeed := false } } := by
  obtain ⟨hrun, hstop, hoff⟩ := h
  unfold UnitRec.atSpeedFall
  cases hstate : u.state
  case running => exact absurd hstate hrun
  case stopping => exact absurd hstate hstop
  case offline => exact absurd hstate hoff
  all_goals rfl

/-- Supervision of a selector at the commanded bay. -/
theorem UnitRec.supervise_here (h : u.selPos.val = u.commandedBay.val) : u.supervise now = { unit := u } :=
  if_pos ((u.selectorAt_iff _).2 h)

/-- Supervision of a selector away from the commanded bay (R61). -/
theorem UnitRec.supervise_away (h : u.selPos.val ≠ u.commandedBay.val) : u.supervise now = u.trip now .selector :=
  if_neg (Bool.eq_false_iff.1 (UnitRec.selectorAt_away.2 h))

/-- In these states a change of SELPOS is supervised (R61). -/
theorem UnitRec.selPosChange_supervised (h : u.state ≠ .offline ∧ u.state ≠ .switching ∧ u.state ≠ .tripped) :
    u.selPosChange now pos = ({ u with selPos := pos } : UnitRec).supervise now := by
  obtain ⟨hoff, hswitch, htrip⟩ := h
  unfold UnitRec.selPosChange
  cases hstate : u.state
  case offline => exact absurd hstate hoff
  case switching => exact absurd hstate hswitch
  case tripped => exact absurd hstate htrip
  all_goals rfl

theorem UnitRec.selPosChange_switching (h : u.state = .switching) :
    u.selPosChange now pos =
      if pos.val = u.commandedBay.val then ({ u with selPos := pos } : UnitRec).endSwitch now
      else { unit := { u with selPos := pos } } := by
  unfold UnitRec.selPosChange
  rw [h]
  dsimp only
  have hat := ({ u with selPos := pos } : UnitRec).selectorAt_iff u.commandedBay
  by_cases hhere : pos.val = u.commandedBay.val
  · rw [if_pos hhere]
    exact if_pos (hat.2 hhere)
  · rw [if_neg hhere]
    exact if_neg ((not_congr hat).2 hhere)

theorem UnitRec.selPosChange_unnamed
    (h : u.state = .tripped ∨ (u.state = .switching ∧ ¬pos.val = u.commandedBay.val)
      ∨ (u.state ≠ .offline ∧ u.state ≠ .switching ∧ pos.val = u.commandedBay.val)) :
    u.selPosChange now pos = { unit := { u with selPos := pos } } := by
  by_cases htrip : u.state = .tripped
  · unfold UnitRec.selPosChange
    rw [htrip]
  · rcases h.resolve_left htrip with ⟨hswitch, haway⟩ | ⟨hoff, hswitch, hhere⟩
    · rw [UnitRec.selPosChange_switching hswitch, if_neg haway]
    · rw [UnitRec.selPosChange_supervised ⟨hoff, hswitch, htrip⟩]
      exact UnitRec.supervise_here hhere

/-- A state timer that is not due, or of another state, has no expiry. -/
theorem UnitRec.stateTimer_idle {st : UnitState} (h : u.stateTimer.due = false ∨ u.state ≠ st) :
    ¬(u.stateTimer.due && decide (u.state = st)) = true := by
  rcases h with h | h <;> simp [h]

end Unnamed

/-- Settles O56. -/
theorem otherLineChangesMoveTheLine : Obligations.OtherLineChangesMoveTheLine := by
  intro i pos s u moved up here
  obtain ⟨hariseHeld, hariseSame, harise⟩ := exec_availRise i s
  obtain ⟨hafallHeld, hafallSame, hafall⟩ := exec_availFall i s
  obtain ⟨hsriseHeld, hsriseSame, hsrise⟩ := exec_atspeedRise i s
  obtain ⟨hsfallHeld, hsfallSame, hsfall⟩ := exec_atspeedFall i s
  obtain ⟨hselHeld, hselSame, hsel⟩ := exec_selposChange i pos s
  have edge : ∀ {c : Instr} {f : UnitRec → UnitEffect} {v : UnitRec} {unnamed line : Prop},
      (s.resetN = false → exec c s = .next (s.unitSet i v)) →
      (s.resetN = true → line → exec c s = .next (s.onUnit i f)) → (unnamed → f u = { unit := v }) →
      ¬up ∨ unnamed → ¬up ∨ line → exec c s = moved v := by
    intro c f v unnamed line hheld hedge hf hunnamed hline
    cases hup : s.resetN with
    | false => exact hheld hup
    | true =>
      rw [hedge hup (hline.resolve_left (not_not_intro hup))]
      exact congrArg _ (State.onUnit_record (hf (hunnamed.resolve_left (not_not_intro hup))))
  have quiet : ∀ {f : State → State} {st : UnitState},
      (u.stateTimer.due = false ∨ u.state ≠ st → f s = s) →
      ¬up ∨ u.stateTimer.due = false ∨ u.state ≠ st → s.whileUp f = .next s :=
    fun hf h => State.whileUp_nothing fun hup => hf (h.resolve_left (not_not_intro hup))
  refine ⟨hariseSame, hafallSame, hsriseSame, hsfallSame, hselSame, edge hariseHeld harise UnitRec.availRise_unnamed,
    edge hafallHeld hafall UnitRec.availFall_unnamed, edge hsriseHeld hsrise UnitRec.atSpeedRise_unnamed,
    edge hsfallHeld hsfall UnitRec.atSpeedFall_unnamed, edge hselHeld hsel UnitRec.selPosChange_unnamed, ?_, ?_, ?_⟩
  · rw [exec_startTimeoutExpiry]
    exact quiet fun h => State.onUnit_same (if_neg (UnitRec.stateTimer_idle h))
  · rw [exec_stopTimeoutExpiry]
    exact quiet fun h => State.onUnit_same (if_neg (UnitRec.stateTimer_idle h))
  · rw [exec_travelTimeoutExpiry]
    exact quiet fun h => State.onUnit_same (if_neg (UnitRec.stateTimer_idle h))

/-! ### Starts proved and switches ended (O58) -/

theorem UnitRec.atSpeedRise_starting {u : UnitRec} {now : Second} (h : u.state = .starting) :
    u.atSpeedRise now = { unit :=
      { u with
        atSpeed := true, state := .running, creditMark := now, runHold := { left := u.cfg.minRun, due := false }
        stateTimer := { left := 0, due := false } } } := by
  unfold UnitRec.atSpeedRise
  rw [h]
  rfl

/-- Settles O58. -/
theorem startAndSwitchComplete : Obligations.StartAndSwitchComplete := by
  intro i pos s hup u zero v leaves arrives
  have harrives : arrives → exec (.selposChange i pos) s = .next (s.onUnit i fun _ => v.endSwitch s.clock) := by
    rintro ⟨hstate, hmoves, hhere⟩
    rw [(exec_selposChange i pos s).2.2 hup hmoves]
    have hends := (UnitRec.selPosChange_switching (now := s.clock) (pos := pos) hstate).trans (if_pos hhere)
    exact congrArg (fun e => Host.Outcome.next (s.applyUnit i e)) hends
  refine ⟨fun hstate hspeed => ?_, fun ha hrest => ?_, fun ha hrest hstays => ?_, fun ha hrest hleaves => ?_⟩
  · rw [(exec_atspeedRise i s).2.2 hup hspeed]
    exact congrArg _ (State.onUnit_record (UnitRec.atSpeedRise_starting hstate))
  · rw [harrives ha]
    exact congrArg _ (State.onUnit_record (if_neg hrest))
  · rw [harrives ha]
    exact congrArg _ (State.onUnit_record ((if_pos hrest).trans (UnitRec.beginIdle_stays (u := v) hstays)))
  · rw [harrives ha]
    exact congrArg _ (State.onUnit_offline ((if_pos hrest).trans (UnitRec.beginIdle_leaves (u := v) hleaves)))

/-! ### The departure test (O55) -/

theorem UnitRec.availRise_offline {u : UnitRec} {now : Second} (h : u.state = .offline) :
    u.availRise now = ({ u with avail := true } : UnitRec).departureTest now := by
  cases u
  cases h
  rfl

theorem UnitRec.atSpeedFall_offline {u : UnitRec} {now : Second} (h : u.state = .offline) :
    u.atSpeedFall now = ({ u with atSpeed := false } : UnitRec).departureTest now := by
  cases u
  cases h
  rfl

theorem UnitRec.selPosChange_offline {u : UnitRec} {now : Second} {pos : Fin 4} (h : u.state = .offline) :
    u.selPosChange now pos = ({ u with selPos := pos } : UnitRec).departureTest now := by
  cases u
  cases h
  rfl

/-- The three rows of the departure test. -/
theorem exec_departureTest {s : State} {i : UnitId} {pos : Fin 4} {c : Instr} {v : UnitRec} (hup : s.resetN = true)
    (hoff : (s.units.get i).state = .offline)
    (hc : (c = .availRise i ∧ (s.units.get i).avail = false ∧ v = { s.units.get i with avail := true })
      ∨ (c = .atspeedFall i ∧ (s.units.get i).atSpeed = true ∧ v = { s.units.get i with atSpeed := false })
      ∨ (c = .selposChange i pos ∧ (s.units.get i).selPos ≠ pos ∧ v = { s.units.get i with selPos := pos })) :
    exec c s = .next (s.applyUnit i (v.departureTest s.clock)) := by
  rcases hc with ⟨rfl, hline, rfl⟩ | ⟨rfl, hline, rfl⟩ | ⟨rfl, hline, rfl⟩
  · rw [(exec_availRise i s).2.2 hup hline, State.onUnit, UnitRec.availRise_offline hoff]
  · rw [(exec_atspeedFall i s).2.2 hup hline, State.onUnit, UnitRec.atSpeedFall_offline hoff]
  · rw [(exec_selposChange i pos s).2.2 hup hline, State.onUnit, UnitRec.selPosChange_offline hoff]

/-- Settles O55. -/
theorem departureTestLeavesOffline : Obligations.DepartureTestLeavesOffline := by
  intro i pos s hup u hoff c v hc passes
  have hexec : exec c s = .next (s.onUnit i fun _ => v.departureTest s.clock) := exec_departureTest hup hoff hc
  have hstanding : v.state ≠ .running := by
    have hkeeps : v.state = u.state := by
      rcases hc with ⟨-, -, rfl⟩ | ⟨-, -, rfl⟩ | ⟨-, -, rfl⟩ <;> rfl
    simp [hkeeps, hoff]
  rw [hexec]
  refine ⟨fun hpass b hpos => ?_, fun hpass hpos => ?_, fun hfail => ?_⟩
  · exact congrArg _ (State.onUnit_record (UnitRec.departureTest_rests hpass hpos))
  · exact congrArg _ (State.onUnit_tripped
      ((UnitRec.departureTest_trips hpass hpos).trans (UnitRec.trip_standing hstanding _)))
  · exact congrArg _ (State.onUnit_record (UnitRec.departureTest_stays hfail))

/-! ### The end of a stop (O54) -/

section EndOfStop
variable {u : UnitRec} {now : Second} {s : State} {i : UnitId}

/-- A departure from service that no departure test follows: no pending enable of yes, or AVAIL low (R44, R84). -/
theorem UnitRec.goOffline_stays (h : ∀ c, u.pendingCfg = some c → c.enable = true → u.avail = false) :
    u.goOffline now =
      { unit := { u.outOfService with creditMark := if u.state = .running then now else u.creditMark }
        credit := if u.owes now = 0 then none else some (u.commandedBay, u.owes now)
        wentOffline := true } := by
  by_cases hp : ∀ c, u.pendingCfg = some c → c.enable = false
  · exact u.goOffline_eq now hp
  · simp only [Classical.not_forall, Bool.not_eq_false] at hp
    obtain ⟨c, hc, henable⟩ := hp
    simp [UnitRec.goOffline, UnitRec.closeCredit_eq, UnitRec.clearTimers, UnitRec.adoptPending, UnitRec.outOfService,
      UnitRec.departureTest, Timer.zero, hc, henable, h c hc henable]

theorem State.onUnit_offline_tripped {f : UnitRec → UnitEffect} {v : UnitRec}
    (h : f (s.units.get i) = { unit := v, tripped := true, wentOffline := true }) :
    s.onUnit i f = s.unitTo i v (fun n => (n.post .unitOffline).post .unitTrip) true := by
  rw [State.onUnit, h]
  rfl

theorem UnitRec.endStop_serves (h : u.avail = true ∧ u.cfg.enable = true) :
    u.endStop now = if u.selectorAt u.commandedBay then { unit := u.beginRest } else u.trip now .selector := by
  obtain ⟨havail, henable⟩ := h
  simp [UnitRec.endStop, havail, henable]

theorem UnitRec.endStop_leaves (h : ¬(u.avail = true ∧ u.cfg.enable = true)) : u.endStop now = u.goOffline now :=
  if_neg (by simpa using h)

theorem UnitRec.atSpeedFall_stopping {u : UnitRec} {now : Second} (h : u.state = .stopping) :
    u.atSpeedFall now = ({ u with atSpeed := false } : UnitRec).endStop now := by
  cases u
  cases h
  rfl

/-- The stop timeout with ATSPEED low ends the stop (R54). -/
theorem UnitRec.stopTimeoutExpiry_slow {u : UnitRec} {now : Second} (hdue : u.stateTimer.due = true)
    (hstate : u.state = .stopping) (hslow : u.atSpeed = false) :
    u.stopTimeoutExpiry now = ({ u with atSpeed := false } : UnitRec).endStop now := by
  cases u
  cases hslow
  exact (if_pos (by simpa using ⟨hdue, hstate⟩)).trans (if_neg Bool.false_ne_true)

/-- The two rows at which a stop ends with ATSPEED low. -/
theorem exec_endStop {c : Instr} (hup : s.resetN = true) (hstate : (s.units.get i).state = .stopping)
    (hc : (c = .atspeedFall i ∧ (s.units.get i).atSpeed = true)
      ∨ (c = .stopTimeoutExpiry i ∧ (s.units.get i).stateTimer.due = true ∧ (s.units.get i).atSpeed = false)) :
    exec c s = .next (s.onUnit i fun u => ({ u with atSpeed := false } : UnitRec).endStop s.clock) := by
  rcases hc with ⟨rfl, hline⟩ | ⟨rfl, hdue, hline⟩
  · rw [(exec_atspeedFall i s).2.2 hup hline, State.onUnit, UnitRec.atSpeedFall_stopping hstate]
    rfl
  · rw [exec_stopTimeoutExpiry, State.whileUp_up _ hup]
    rw [State.onUnit, UnitRec.stopTimeoutExpiry_slow hdue hstate hline]
    rfl

end EndOfStop

/-- Settles O54. -/
theorem stopEndsByTheLines : Obligations.StopEndsByTheLines := by
  intro i c s hup u hstate hc v serves departs
  have hstanding : v.state ≠ .running := by simp [v, hstate]
  rw [exec_endStop hup hstate hc]
  refine ⟨fun hserves hpos => ?_, fun hserves hpos => ?_, fun hleaves hstays => ?_, fun hleaves hdeparts b hpos => ?_,
    fun hleaves hdeparts hpos => ?_⟩
  · refine congrArg _ (State.onUnit_record ((UnitRec.endStop_serves (u := v) hserves).trans ?_))
    exact if_pos ((v.selectorAt_iff _).2 hpos)
  · refine congrArg _ (State.onUnit_tripped ((UnitRec.endStop_serves (u := v) hserves).trans ?_))
    exact (if_neg ((not_congr (v.selectorAt_iff _)).2 hpos)).trans (UnitRec.trip_standing hstanding _)
  · refine congrArg _ (State.onUnit_offline ((UnitRec.endStop_leaves (u := v) hleaves).trans ?_))
    have hunavailable : ∀ c, v.pendingCfg = some c → c.enable = true → v.avail = false := by
      intro c hp henable
      exact Bool.eq_false_iff.2 fun havail => hstays ⟨c, hp, henable, havail⟩
    rw [UnitRec.goOffline_stays hunavailable, UnitRec.owes_standing hstanding, if_neg hstanding]
    rfl
  · obtain ⟨k, hp, henable, havail⟩ := hdeparts
    refine congrArg _ (State.onUnit_offline ((UnitRec.endStop_leaves (u := v) hleaves).trans ?_))
    have hpass : v.outOfService.avail = true ∧ v.outOfService.cfg.enable = true ∧ v.outOfService.atSpeed = false :=
      ⟨havail, by simp [UnitRec.outOfService, show v.pendingCfg = _ from hp, henable], rfl⟩
    rw [UnitRec.goOffline_departs hstanding hp henable, UnitRec.departureTest_rests hpass hpos]
  · obtain ⟨k, hp, henable, havail⟩ := hdeparts
    refine congrArg _ (State.onUnit_offline_tripped ((UnitRec.endStop_leaves (u := v) hleaves).trans ?_))
    have hpass : v.outOfService.avail = true ∧ v.outOfService.cfg.enable = true ∧ v.outOfService.atSpeed = false :=
      ⟨havail, by simp [UnitRec.outOfService, show v.pendingCfg = _ from hp, henable], rfl⟩
    rw [UnitRec.goOffline_departs hstanding hp henable, UnitRec.departureTest_trips hpass hpos,
      UnitRec.trip_standing (by simp [UnitRec.outOfService])]

/-! ### Departures from service and trips with their credit (O57, O53) -/

section Credited
variable {s : State} {i : UnitId} {e : UnitEffect} {b : District} {n : Nat}

/-- The event credits `n` litres to queue `b`; no credit of 0 is sent. -/
def UnitEffect.Credits (e : UnitEffect) (b : District) (n : Nat) : Prop := e.credit = if n = 0 then none else some (b, n)

theorem UnitEffect.Credits.creditsTo (h : e.Credits b n) (d : District) :
    e.creditsTo d = if d = b ∧ n ≠ 0 then [n] else [] := by
  unfold UnitEffect.creditsTo
  rw [h]
  by_cases hn : n = 0
  · simp [hn]
  · simp [hn, eq_comm]

theorem State.applyUnit_credits (h : e.Credits b n) :
    (s.applyUnit i e).queues =
      if n = 0 then s.queues
      else s.queues.set b ((s.queues.get b).credit s.river.closure.isSome s.clock n).queue := by
  refine Tri.eq_of_get fun d => ?_
  rw [State.applyUnit_queue, h.creditsTo]
  by_cases hn : n = 0
  · simp [hn]
  · by_cases hd : d = b
    · subst hd
      simp [hn, State.closed]
    · simp [hn, hd]

theorem State.creditsPost_of (h : e.Credits b n) (p : PortId) (k : NoticeKind) :
    s.creditsPost e.creditsTo p k =
      (decide (p = .district b ∧ n ≠ 0) && ((s.queues.get b).credit s.river.closure.isSome s.clock n).posts k) := by
  cases p with
  | river => simp [State.creditsPost]
  | district d =>
    simp only [State.creditsPost, h.creditsTo]
    by_cases hd : d = b
    · subst hd
      by_cases hn : n = 0
      · simp [hn]
      · simp [hn, State.closed, QueueEffect.posts]
    · simp [hd]

/-- The district notices of the queue that took the credit. -/
theorem State.applyUnit_credit_posts (h : e.Credits b n) (hn : n ≠ 0) :
    let x := (s.queues.get b).credit s.river.closure.isSome s.clock n
    let m := (s.applyUnit i e).notices.get (.district b)
    let m0 := s.notices.get (.district b)
    holds m.set .orderFinished = (holds m0.set .orderFinished || x.finished)
    ∧ holds m.set .completionOverflow = (holds m0.set .completionOverflow || x.overflowed) := by
  simp [State.holds_applyUnit, State.creditsPost_of h, QueueEffect.posts, hn]

/-- No other notice moves. -/
theorem State.applyUnit_other_posts (h : e.Credits b n) {p : PortId} {k : NoticeKind}
    (hoff : k = .unitOffline → e.wentOffline = false) (htrip : k = .unitTrip → e.tripped = false)
    (hfree : p = .district b → n ≠ 0 → k ≠ .orderFinished ∧ k ≠ .completionOverflow) :
    holds ((s.applyUnit i e).notices.get p).set k = holds (s.notices.get p).set k := by
  have hcredit : s.creditsPost e.creditsTo p k = false := by
    rw [State.creditsPost_of h]
    by_cases hp : p = .district b ∧ n ≠ 0
    · obtain ⟨hfinished, hoverflow⟩ := hfree hp.1 hp.2
      simp [QueueEffect.posts, hfinished, hoverflow]
    · simp [hp]
  have hoff' : (e.wentOffline && decide (k = .unitOffline)) = false := by
    by_cases hk : k = .unitOffline
    · simp [hoff hk]
    · simp [hk]
  have htrip' : (e.tripped && decide (k = .unitTrip)) = false := by
    by_cases hk : k = .unitTrip
    · simp [htrip hk]
    · simp [hk]
  rw [State.holds_applyUnit, hcredit, hoff', htrip']
  simp

end Credited

/-- A fall of AVAIL in service. -/
theorem UnitRec.availFall_serving {u : UnitRec} {now : Second} (hoff : u.state ≠ .offline) (hstop : u.state ≠ .stopping)
    (htrip : u.state ≠ .tripped) : u.availFall now = ({ u with avail := false } : UnitRec).goOffline now := by
  unfold UnitRec.availFall
  cases hstate : u.state
  case offline => exact absurd hstate hoff
  case stopping => exact absurd hstate hstop
  case tripped => exact absurd hstate htrip
  all_goals rfl

/-- Settles O57. -/
theorem availFallTakesOutOfService : Obligations.AvailFallTakesOutOfService := by
  intro i s hup u havail hoff hstop htrip v
  have hevent : u.availFall s.clock =
      { unit := { v.outOfService with creditMark := if u.state = .running then s.clock else u.creditMark }
        credit := if u.owes s.clock = 0 then none else some (u.commandedBay, u.owes s.clock)
        wentOffline := true } :=
    (UnitRec.availFall_serving hoff hstop htrip).trans (UnitRec.goOffline_stays fun _ _ _ => rfl)
  have hcredits : (u.availFall s.clock).Credits u.commandedBay (u.owes s.clock) := by rw [hevent]; rfl
  obtain ⟨hunits, hrest, hdisp⟩ := s.applyUnit_frame i (u.availFall s.clock)
  refine ⟨s.applyUnit i (u.availFall s.clock), (exec_availFall i s).2.2 hup havail, ?_, State.applyUnit_credits hcredits,
    fun hn => State.applyUnit_credit_posts hcredits hn, fun p => ?_, fun p k hk hfree => ?_, ?_⟩
  · rw [hunits, hevent]
  · rw [State.holds_applyUnit, hevent]
    simp
  · refine State.applyUnit_other_posts hcredits (fun h => absurd h hk) (fun _ => ?_) hfree
    rw [hevent]
  · have hdisp' : (s.applyUnit i (u.availFall s.clock)).disp = s.disp := by
      rw [hdisp, hevent]
      rfl
    have hput := congrArg (fun x : Dispatcher =>
      { s.applyUnit i (u.availFall s.clock) with units := s.units, queues := s.queues, notices := s.notices, disp := x }) hdisp'
    exact hput.trans hrest

/-! ### Trips (O53) -/

section Trips
variable {s : State} {i : UnitId} {c : Instr} {v : UnitRec} {why : TripReason}

theorem mem_ite_singleton {α : Type} {p : Prop} [Decidable p] {x y : α} : y ∈ (if p then [x] else []) ↔ p ∧ y = x := by
  by_cases h : p <;> simp [h]

/-- The trip of a unit as the claims say it, for a record `v` that differs from the unit's by its lines alone. -/
theorem State.trip_spec (hstate : v.state = (s.units.get i).state) (hbay : v.commandedBay = (s.units.get i).commandedBay)
    (hmark : v.creditMark = (s.units.get i).creditMark) (howes : v.owes s.clock = (s.units.get i).owes s.clock) :
    let u := s.units.get i
    let t := s.applyUnit i (v.trip s.clock why)
    t.units = s.units.set i
        { v.trippedBy why with creditMark := if u.state = .running then s.clock else u.creditMark }
    ∧ t.disp = { s.disp with request := true }
    ∧ (v.trip s.clock why).Credits u.commandedBay (u.owes s.clock)
    ∧ (∀ p, holds (t.notices.get p).set .unitTrip = true)
    ∧ { t with units := s.units, disp := s.disp, queues := s.queues, notices := s.notices } = s := by
  intro u t
  obtain ⟨hunits, hrest, hdisp⟩ := s.applyUnit_frame i (v.trip s.clock why)
  refine ⟨?_, ?_, ?_, fun p => ?_, hrest⟩
  · rw [hunits, UnitRec.trip_eq, hstate, hmark]
  · rw [hdisp, UnitRec.trip_eq]
    rfl
  · rw [UnitRec.trip_eq, howes, hbay]
    rfl
  · rw [State.holds_applyUnit, UnitRec.trip_eq]
    simp

end Trips

/-! The trips, row by row: the record `v` that trips is the unit's with the line of the row moved. -/

section TripRows
variable {s : State} {i : UnitId}

theorem UnitRec.atSpeedFall_running {u : UnitRec} {now : Second} (h : u.state = .running) :
    u.atSpeedFall now = ({ u with atSpeed := false } : UnitRec).trip now .lostRun := by
  cases u
  cases h
  rfl

/-- A motor that runs unasked (R63). -/
theorem UnitRec.atSpeedRise_unasked {u : UnitRec} {now : Second}
    (h : u.state = .idle ∨ u.state = .resting ∨ u.state = .switching) :
    u.atSpeedRise now = ({ u with atSpeed := true } : UnitRec).trip now .uncommandedRun := by
  cases u
  rcases h with h | h | h <;> cases h <;> rfl

/-- The end of a stop with the selector away from the commanded bay (R53). -/
theorem UnitRec.endStop_away {u : UnitRec} {now : Second} (h : u.avail = true ∧ u.cfg.enable = true)
    (hpos : u.selPos.val ≠ u.commandedBay.val) : u.endStop now = u.trip now .selector :=
  (UnitRec.endStop_serves h).trans (if_neg ((not_congr (u.selectorAt_iff _)).2 hpos))

/-- A row carries out the trip `why` of the record `v`, the unit's own but for its lines. -/
def State.RowTrips (s : State) (c : Instr) (i : UnitId) (v : UnitRec) (why : TripReason) : Prop :=
  exec c s = .next (s.applyUnit i (v.trip s.clock why))
    ∧ v = { s.units.get i with avail := v.avail, atSpeed := v.atSpeed, selPos := v.selPos }

theorem State.rowTrips_departure {pos : Fin 4} {c : Instr} {v : UnitRec} (hup : s.resetN = true)
    (hoff : (s.units.get i).state = .offline)
    (hc : (c = .availRise i ∧ (s.units.get i).avail = false ∧ v = { s.units.get i with avail := true })
      ∨ (c = .atspeedFall i ∧ (s.units.get i).atSpeed = true ∧ v = { s.units.get i with atSpeed := false })
      ∨ (c = .selposChange i pos ∧ (s.units.get i).selPos ≠ pos ∧ v = { s.units.get i with selPos := pos }))
    (hfails : v.avail = true ∧ v.cfg.enable = true ∧ v.atSpeed = false ∧ v.selPos = 3) : s.RowTrips c i v .selector := by
  obtain ⟨havail, henable, hspeed, hpos⟩ := hfails
  constructor
  · rw [exec_departureTest hup hoff hc, UnitRec.departureTest_trips ⟨havail, henable, hspeed⟩ hpos]
  · rcases hc with ⟨-, -, rfl⟩ | ⟨-, -, rfl⟩ | ⟨-, -, rfl⟩ <;> rfl

/-- A state timer that is due trips the unit (R50, R59). -/
theorem State.onUnit_expired {u : UnitRec} {st : UnitState} {e f : UnitEffect} (h : u.state = st ∧ u.stateTimer.due = true) :
    (if (u.stateTimer.due && decide (u.state = st)) = true then e else f) = e :=
  if_pos (by simp [h])

theorem State.rowTrips_stopAway {c : Instr} (hup : s.resetN = true) (hstate : (s.units.get i).state = .stopping)
    (hc : (c = .atspeedFall i ∧ (s.units.get i).atSpeed = true)
      ∨ (c = .stopTimeoutExpiry i ∧ (s.units.get i).stateTimer.due = true ∧ (s.units.get i).atSpeed = false))
    (hstray : (s.units.get i).avail = true ∧ (s.units.get i).cfg.enable = true
      ∧ (s.units.get i).selPos.val ≠ (s.units.get i).commandedBay.val) :
    s.RowTrips c i { s.units.get i with atSpeed := false } .selector := by
  obtain ⟨havail, henable, hpos⟩ := hstray
  refine ⟨?_, rfl⟩
  rw [exec_endStop hup hstate hc]
  exact congrArg (fun e => Host.Outcome.next (s.applyUnit i e))
    (UnitRec.endStop_away (u := { s.units.get i with atSpeed := false }) ⟨havail, henable⟩ hpos)

end TripRows

/-- Settles O53. -/
theorem tripsOfExpiriesAndLinesDoTheSame : Obligations.TripsOfExpiriesAndLinesDoTheSame := by
  intro i pos s hup u fast fails stray c v why hmem
  have htrips : s.RowTrips c i v why := by
    simp only [List.mem_append, mem_ite_singleton, Prod.mk.injEq, or_assoc] at hmem
    rcases hmem with ⟨hdue, rfl, rfl, rfl⟩ | ⟨⟨hstate, hdue, hfast⟩, rfl, rfl, rfl⟩ | ⟨hdue, rfl, rfl, rfl⟩
      | ⟨⟨hstate, hline⟩, rfl, rfl, rfl⟩ | ⟨⟨hstate, hline⟩, rfl, rfl, rfl⟩ | ⟨⟨hstate, hline, haway⟩, rfl, rfl, rfl⟩
      | ⟨⟨hoff, hline, hfails⟩, rfl, rfl, rfl⟩ | ⟨⟨hoff, hline, hfails⟩, rfl, rfl, rfl⟩
      | ⟨⟨hoff, hline, hfails⟩, rfl, rfl, rfl⟩ | ⟨⟨hstate, hline, hstray⟩, rfl, rfl, rfl⟩
      | ⟨⟨hstate, hdue, hslow, hstray⟩, rfl, rfl, rfl⟩
    · rw [State.RowTrips, exec_startTimeoutExpiry, State.whileUp_up _ hup]
      exact ⟨congrArg (fun e => Host.Outcome.next (s.applyUnit i e)) (State.onUnit_expired hdue), rfl⟩
    · rw [State.RowTrips, exec_stopTimeoutExpiry, State.whileUp_up _ hup]
      exact ⟨congrArg (fun e => Host.Outcome.next (s.applyUnit i e))
        ((State.onUnit_expired ⟨hstate, hdue⟩).trans (if_pos hfast)), rfl⟩
    · rw [State.RowTrips, exec_travelTimeoutExpiry, State.whileUp_up _ hup]
      exact ⟨congrArg (fun e => Host.Outcome.next (s.applyUnit i e)) (State.onUnit_expired hdue), rfl⟩
    · rw [State.RowTrips, (exec_atspeedFall i s).2.2 hup hline, State.onUnit, UnitRec.atSpeedFall_running hstate]
      exact ⟨rfl, rfl⟩
    · rw [State.RowTrips, (exec_atspeedRise i s).2.2 hup hline, State.onUnit, UnitRec.atSpeedRise_unasked hstate]
      exact ⟨rfl, rfl⟩
    · have hsupervised : u.state ≠ .offline ∧ u.state ≠ .switching ∧ u.state ≠ .tripped := by
        rcases hstate with h | h | h | h | h <;> simp [h]
      rw [State.RowTrips, (exec_selposChange i pos s).2.2 hup (Ne.symm hline), State.onUnit,
        UnitRec.selPosChange_supervised hsupervised, UnitRec.supervise_away haway]
      exact ⟨rfl, rfl⟩
    · exact State.rowTrips_departure (pos := pos) hup hoff (.inl ⟨rfl, hline, rfl⟩) hfails
    · exact State.rowTrips_departure (pos := pos) hup hoff (.inr (.inl ⟨rfl, hline, rfl⟩)) hfails
    · exact State.rowTrips_departure hup hoff (.inr (.inr ⟨rfl, Ne.symm hline, rfl⟩)) hfails
    · exact State.rowTrips_stopAway hup hstate (.inl ⟨rfl, hline⟩) hstray
    · have hlow : ({ u with atSpeed := false } : UnitRec) = u := by rw [← hslow]
      rw [← hlow]
      exact State.rowTrips_stopAway hup hstate (.inr ⟨rfl, hdue, hslow⟩) hstray
  obtain ⟨hexec, hlines⟩ := htrips
  have hsame : v.state = u.state ∧ v.commandedBay = u.commandedBay ∧ v.creditMark = u.creditMark
      ∧ v.owes s.clock = u.owes s.clock := by
    rw [hlines]
    exact ⟨rfl, rfl, rfl, rfl⟩
  obtain ⟨hstate, hbay, hmark, howes⟩ := hsame
  obtain ⟨hunits, hdisp, hcredits, hposted, hrest⟩ := State.trip_spec (why := why) hstate hbay hmark howes
  refine ⟨_, hexec, hunits, hdisp, State.applyUnit_credits hcredits, fun hn => State.applyUnit_credit_posts hcredits hn,
    hposted, fun p k hk hfree => ?_, hrest⟩
  refine State.applyUnit_other_posts hcredits (fun _ => ?_) (fun h => absurd h hk) hfree
  rw [UnitRec.trip_eq]

end Sys2Proof.Machine
end

section
/-! PROOFS about orders that leave a list and orders with a tag (sections 5.4 to 5.6): settles O22, O23 and O46. -/

namespace Sys2Proof.Machine

/-! ### Orders that leave (R94, R96, R97) -/

/-- The list after the orders that `gone` names have left: where the oldest was among them the oldest left is promoted. -/
def ordersLeft (served : OrderState) (gone : Order → Bool) (orders : List Order) : List Order :=
  let stay := orders.filter fun o => !gone o
  match orders, stay with
  | o :: _, x :: xs => if gone o = true then { x with state := served } :: xs else stay
  | _, _ => stay

section Leave
variable {q : OrderQueue} {closed : Bool} {now : Second} {k : FinishKind} {gone : Order → Bool}

theorem OrderQueue.leave_none (h : q.orders.filter gone = []) : q.leave closed now k gone = { queue := q } := by
  simp [OrderQueue.leave, h]

theorem OrderQueue.leave_some (h : q.orders.filter gone ≠ []) :
    q.leave closed now k gone =
      q.finish (ordersLeft (headState closed) gone q.orders) ((q.orders.filter gone).map fun o => o.endedAs k now) := by
  have hnone : ¬((q.orders.filter gone).map fun o => o.endedAs k now).isEmpty = true := by simpa using h
  unfold OrderQueue.leave ordersLeft
  dsimp only
  rw [if_neg hnone]
  congr 1
  cases q.orders with
  | nil => rfl
  | cons o os =>
    cases (o :: os).filter fun x => !gone x with
    | nil => simp [settleHead]
    | cons x xs => cases gone o <;> rfl

end Leave

/-! ### One order of a list without repeated tags -/

section Tags
variable {ahead behind : List Order} {o : Order} {tag : Byte}

/-- In a list without repeated tags the order with a tag stands alone. -/
theorem tag_ne_of_nodup (hnodup : ((ahead ++ o :: behind).map Order.tag).Nodup) (htag : o.tag = tag) :
    (∀ x ∈ ahead, x.tag ≠ tag) ∧ ∀ x ∈ behind, x.tag ≠ tag := by
  subst htag
  simp only [List.map_append, List.map_cons] at hnodup
  obtain ⟨-, hright, hcross⟩ := List.nodup_append.1 hnodup
  refine ⟨fun x hx => hcross _ (List.mem_map_of_mem hx) _ List.mem_cons_self, fun x hx heq => ?_⟩
  exact (List.nodup_cons.1 hright).1 (heq ▸ List.mem_map_of_mem hx)

theorem filter_tag_eq (hahead : ∀ x ∈ ahead, x.tag ≠ tag) (hbehind : ∀ x ∈ behind, x.tag ≠ tag) (htag : o.tag = tag) :
    (ahead ++ o :: behind).filter (fun x => decide (x.tag = tag)) = [o] := by
  have hnone : ∀ l : List Order, (∀ x ∈ l, x.tag ≠ tag) → l.filter (fun x => decide (x.tag = tag)) = [] := fun l hl =>
    List.filter_eq_nil_iff.2 fun x hx => by simpa using hl x hx
  simp [hnone ahead hahead, hnone behind hbehind, htag]

theorem filter_tag_ne (hahead : ∀ x ∈ ahead, x.tag ≠ tag) (hbehind : ∀ x ∈ behind, x.tag ≠ tag) (htag : o.tag = tag) :
    (ahead ++ o :: behind).filter (fun x => !decide (x.tag = tag)) = ahead ++ behind := by
  have hall : ∀ l : List Order, (∀ x ∈ l, x.tag ≠ tag) → l.filter (fun x => !decide (x.tag = tag)) = l := fun l hl =>
    List.filter_eq_self.2 fun x hx => by simpa using hl x hx
  simp [hall ahead hahead, hall behind hbehind, htag]

/-- What is left of a list when the order between `ahead` and `behind` has left. -/
def ordersAround (served : OrderState) (ahead behind : List Order) : List Order :=
  match ahead, behind with
  | [], [] => []
  | [], x :: xs => { x with state := served } :: xs
  | _ :: _, _ => ahead ++ behind

/-- The order with the tag leaves: from the head the next is promoted, from elsewhere the list closes up. -/
theorem ordersLeft_tag {served : OrderState} (hahead : ∀ x ∈ ahead, x.tag ≠ tag) (hbehind : ∀ x ∈ behind, x.tag ≠ tag)
    (htag : o.tag = tag) :
    ordersLeft served (fun x => decide (x.tag = tag)) (ahead ++ o :: behind) =
      ordersAround served ahead behind := by
  unfold ordersLeft ordersAround
  dsimp only
  rw [filter_tag_ne hahead hbehind htag]
  cases ahead with
  | nil => cases behind <;> simp [htag]
  | cons a as => simp [hahead a List.mem_cons_self]

theorem find_tag {q : OrderQueue} (horders : q.orders = ahead ++ o :: behind) (hahead : ∀ x ∈ ahead, x.tag ≠ tag)
    (htag : o.tag = tag) : q.find tag = some o := by
  rw [OrderQueue.find, horders, List.find?_append, List.find?_eq_none.2 fun x hx => by simpa using hahead x hx]
  simp [htag]

end Tags

/-! ### CANCEL ORDER (O22) -/

section Cancel
variable {s : State} {d : District} {tag chk : Byte}

theorem exec_cancelOrder_zero (h : s.accepts ⟨.district d, 0x22, [tag], chk⟩) (hzero : tag = 0) :
    exec (.cancelOrder (.district d) tag chk) s = .next (s.answer ⟨.district d, 0x22, [tag], chk⟩ [0x20, 0, 0, 0, 0]) := by
  refine (State.takeFrame_onDistrict _ h).trans ?_
  dsimp only
  rw [if_pos hzero]
  rfl

theorem exec_cancelOrder_absent (h : s.accepts ⟨.district d, 0x22, [tag], chk⟩) (hzero : tag ≠ 0)
    (hfind : (s.queues.get d).find tag = none) :
    exec (.cancelOrder (.district d) tag chk) s = .next (s.answer ⟨.district d, 0x22, [tag], chk⟩ [0x23, 0, 0, 0, 0]) := by
  refine (State.takeFrame_onDistrict _ h).trans ?_
  dsimp only
  rw [if_neg hzero, hfind]
  rfl

theorem exec_cancelOrder_found (h : s.accepts ⟨.district d, 0x22, [tag], chk⟩) (hzero : tag ≠ 0) {o : Order}
    (hfind : (s.queues.get d).find tag = some o) :
    exec (.cancelOrder (.district d) tag chk) s =
      .next ((s.applyQueue d ((s.queues.get d).leave s.closed s.clock .cancelled fun x => x.tag = tag)).answer
        ⟨.district d, 0x22, [tag], chk⟩ (0x00 :: beBytes 4 o.remaining)) := by
  refine (State.takeFrame_onDistrict _ h).trans ?_
  dsimp only
  rw [if_neg hzero, hfind]
  rfl

/-- A finish of one order, whatever the length of the completion list (R94, R103). -/
theorem OrderQueue.finish_one (q : OrderQueue) (orders : List Order) (r : Completion) {full : Bool}
    (hfull : decide (8 ≤ q.completions.length) = full) :
    q.finish orders [r] =
      { queue :=
          { q with
            orders := orders
            gateOpen := q.gateOpen && !orders.isEmpty
            completions := (if full = true then q.completions.tail else q.completions) ++ [r]
            readDrops := min 8 (q.readDrops + if full = true then 1 else 0) }
        finished := true
        overflowed := full } := by
  subst hfull
  by_cases h : 8 ≤ q.completions.length <;> simp [OrderQueue.finish, appendCompletion, h]

/-- Settles O22. -/
theorem cancelOrderFinishesTheOrder : Obligations.CancelOrderFinishesTheOrder := by
  intro d tag chk s f haccepts q
  refine ⟨exec_cancelOrder_zero haccepts, fun hzero habsent => exec_cancelOrder_absent haccepts hzero ?_, ?_⟩
  · exact List.find?_eq_none.2 fun x hx => by simpa using habsent x hx
  · intro hzero ahead behind o horders htag hnodup served left record full n1 n2
    rw [horders] at hnodup
    obtain ⟨hahead, hbehind⟩ := tag_ne_of_nodup hnodup htag
    have hgone : q.orders.filter (fun x => decide (x.tag = tag)) = [o] := by
      rw [horders, filter_tag_eq hahead hbehind htag]
    have hleft : ordersLeft (headState s.closed) (fun x => decide (x.tag = tag)) q.orders = left := by
      rw [horders, ordersLeft_tag hahead hbehind htag, headState_closed]
      rfl
    have hrecord : o.endedAs .cancelled s.clock = record := by
      rw [Order.endedAs, htag]
    rw [exec_cancelOrder_found haccepts hzero (find_tag horders hahead htag), field32_ofNat,
      OrderQueue.leave_some (by rw [hgone]; simp), hgone, hleft, List.map_cons, List.map_nil, hrecord,
      OrderQueue.finish_one q left record rfl, State.applyQueue_eq]
    rfl

end Cancel

/-! ### SET URGENCY (O23) -/

section Urgency
variable {s : State} {d : District} {tag urgency chk : Byte}

theorem exec_setUrgency_bad (h : s.accepts ⟨.district d, 0x23, [tag, urgency], chk⟩) (hbad : tag = 0 ∨ 2 < urgency.toNat) :
    exec (.setUrgency (.district d) tag urgency chk) s =
      .next (s.answer ⟨.district d, 0x23, [tag, urgency], chk⟩ [0x20]) := by
  refine (State.takeFrame_onDistrict _ h).trans ?_
  by_cases hurgency : 2 < urgency.toNat
  · rw [urgencyOf_eq_none hurgency]
    rfl
  · rw [urgencyOf_eq_some (Nat.le_of_not_lt hurgency)]
    dsimp only
    rw [if_pos (hbad.resolve_right hurgency)]
    rfl

theorem exec_setUrgency_absent (h : s.accepts ⟨.district d, 0x23, [tag, urgency], chk⟩) (hzero : tag ≠ 0)
    (hurgency : urgency.toNat ≤ 2) (habsent : (s.queues.get d).hasTag tag = false) :
    exec (.setUrgency (.district d) tag urgency chk) s =
      .next (s.answer ⟨.district d, 0x23, [tag, urgency], chk⟩ [0x23]) := by
  refine (State.takeFrame_onDistrict _ h).trans ?_
  rw [urgencyOf_eq_some hurgency]
  dsimp only
  rw [if_neg hzero, if_neg (Bool.eq_false_iff.1 habsent)]
  rfl

theorem exec_setUrgency_found (h : s.accepts ⟨.district d, 0x23, [tag, urgency], chk⟩) (hzero : tag ≠ 0)
    (hurgency : urgency.toNat ≤ 2) (hfound : (s.queues.get d).hasTag tag = true) :
    exec (.setUrgency (.district d) tag urgency chk) s =
      .next ((s.setQueue d ((s.queues.get d).setUrgency tag
          (if urgency.toNat = 0 then .routine else if urgency.toNat = 1 then .high else .emergency))).answer
        ⟨.district d, 0x23, [tag, urgency], chk⟩ [0x00]) := by
  refine (State.takeFrame_onDistrict _ h).trans ?_
  rw [urgencyOf_eq_some hurgency]
  dsimp only
  rw [if_neg hzero, if_pos hfound]
  rfl

/-- The new urgency reaches the order with the tag alone. -/
theorem map_urgency {ahead behind : List Order} {o : Order} (hahead : ∀ x ∈ ahead, x.tag ≠ tag)
    (hbehind : ∀ x ∈ behind, x.tag ≠ tag) (htag : o.tag = tag) (u : Urgency) :
    ((ahead ++ o :: behind).map fun x => if x.tag = tag then { x with urgency := u } else x)
      = ahead ++ { o with urgency := u } :: behind := by
  have hsame : ∀ l : List Order, (∀ x ∈ l, x.tag ≠ tag) →
      (l.map fun x => if x.tag = tag then { x with urgency := u } else x) = l := fun l hl =>
    (List.map_congr_left fun x hx => if_neg (hl x hx)).trans (List.map_id' l)
  simp [hsame ahead hahead, hsame behind hbehind, htag]

/-- Settles O23. -/
theorem setUrgencyReplacesTheUrgency : Obligations.SetUrgencyReplacesTheUrgency := by
  intro d tag urgency chk s f haccepts q c
  refine ⟨exec_setUrgency_bad haccepts, fun hzero hurgency habsent => ?_, ?_⟩
  · refine exec_setUrgency_absent haccepts hzero hurgency (Bool.eq_false_iff.2 fun hfound => ?_)
    obtain ⟨o, hmem, htag⟩ := OrderQueue.hasTag_iff.1 hfound
    exact habsent o hmem htag
  · intro hzero hurgency ahead behind o horders htag hnodup u
    have hmem : o ∈ q.orders := by simp [horders]
    rw [horders] at hnodup
    obtain ⟨hahead, hbehind⟩ := tag_ne_of_nodup hnodup htag
    have hset : q.setUrgency tag u = { q with orders := ahead ++ { o with urgency := u } :: behind } := by
      rw [OrderQueue.setUrgency, horders, map_urgency hahead hbehind htag]
    exact (exec_setUrgency_found haccepts hzero hurgency (OrderQueue.hasTag_iff.2 ⟨o, hmem, htag⟩)).trans
      (congrArg (fun x => Host.Outcome.next ((s.setQueue d x).answer f [0x00])) hset)

end Urgency

/-! ### Deadlines (O46) -/

theorem exec_deadlineExpiry (d : District) (s : State) : exec (.deadlineExpiry d) s = s.whileUp fun s => s.cutQueue d := rfl

/-- Settles O46. -/
theorem deadlineExpiryCuts : Obligations.DeadlineExpiryCuts := by
  intro d s q expires gone stay served left records dropped n
  rw [exec_deadlineExpiry]
  refine ⟨fun h => State.whileUp_nothing fun hup => ?_, fun hup hgone hlength => ?_⟩
  · have hnone : q.orders.filter (Order.expiresAt s.clock) = [] := h.resolve_left (by simp [hup])
    rw [State.cutQueue, OrderQueue.cutExpired, OrderQueue.leave_none hnone, State.applyQueue_eq]
    simp [q]
  · have hleft : ordersLeft (headState s.closed) (Order.expiresAt s.clock) q.orders = left := by
      rw [headState_closed]
      rfl
    have hexpired : q.orders.filter (Order.expiresAt s.clock) ≠ [] := hgone
    rw [State.whileUp_up _ hup, State.cutQueue, OrderQueue.cutExpired, OrderQueue.leave_some hexpired, hleft,
      OrderQueue.finish_eq q left _ hlength, State.applyQueue_eq]
    have hrecords : (q.orders.filter (Order.expiresAt s.clock)).map (fun o => o.endedAs .cut s.clock) = records := rfl
    have hcount : records.length = gone.length := List.length_map _
    have hnonempty : records.isEmpty = false := by simpa [records] using hgone
    rw [hrecords, hnonempty, hcount]
    by_cases hroom : 8 < q.completions.length + gone.length
    · have hdropped : dropped ≠ 0 := Nat.sub_ne_zero_of_lt hroom
      simp [hroom, hdropped, dropped, n]
    · have hdropped : dropped = 0 := Nat.sub_eq_zero_of_le (Nat.le_of_not_lt hroom)
      simp [hroom, hdropped, dropped, n]

end Sys2Proof.Machine
end

section
/-! PROOFS about the due steps of the bays, the stage, the silence and the changeover filter: settles O42, O43 and O44. -/

namespace Sys2Proof.Machine

/-! ### Freshness (O42) -/

theorem exec_freshnessFall (d : District) (s : State) : exec (.freshnessFall d) s = s.whileUp fun s => s.ageBay d := rfl

theorem exec_stageFreshnessFall (s : State) : exec .stageFreshnessFall s = s.whileUp State.ageStage := rfl

theorem fallAge_iff (age : Nat) : fallAge age = true ↔ age = 60 ∨ age = 300 := by simp [fallAge]

section Ageing
variable {b : Bay} {s : State} {d : District}

theorem Bay.takeAgeing_early (h : b.ageDue = false) : b.takeAgeing = ({ bay := b }, false) := by simp [Bay.takeAgeing, h]

/-- The ageing that is due counts one second, and at 60 or 300 recomputes (R7, R9). -/
theorem Bay.takeAgeing_reported {l : Int} (hdue : b.ageDue = true) (h : b.reported = some l) :
    b.takeAgeing =
      if nextAge b.age = 60 ∨ nextAge b.age = 300 then
        (({ b with age := nextAge b.age, ageDue := false } : Bay).recompute, true)
      else ({ bay := { b with age := nextAge b.age, ageDue := false } }, false) := by
  simp [Bay.takeAgeing, hdue, h, fallAge_iff]

/-- The ageing that is due where freshness stands: the age of a report counts. -/
theorem Bay.takeAgeing_stands (hdue : b.ageDue = true)
    (h : b.reported = none ∨ (nextAge b.age ≠ 60 ∧ nextAge b.age ≠ 300)) :
    b.takeAgeing =
      ({ bay := { b with age := if b.reported = none then b.age else nextAge b.age, ageDue := false } }, false) := by
  cases hreport : b.reported with
  | none => simp [Bay.takeAgeing, hdue, hreport]
  | some l =>
    obtain ⟨h60, h300⟩ := h.resolve_left (by simp [hreport])
    rw [Bay.takeAgeing_reported hdue hreport, if_neg (by omega)]
    simp [hreport]

/-- An ageing at which freshness stands. -/
theorem State.ageBay_record {b : Bay} (h : (s.bays.get d).takeAgeing = ({ bay := b }, false)) :
    s.ageBay d = { s with bays := s.bays.set d b } := by
  rw [State.ageBay, h]
  rfl

/-- A fall of freshness, with its recomputation and LEVEL_AGED (R7, R9, R16). -/
theorem State.ageBay_falls {b : Bay} {used : Int} {low : Bool} (h : (s.bays.get d).takeAgeing = (b.recompute, true))
    (hused : levelUsedOf b.reported b.age b.floatInput b.cfg.floatLevel = used)
    (hlow : lowSuctionOf b.floatInput used b.cfg.floor b.lowSuction = low) :
    s.ageBay d =
      { s with
        bays := s.bays.set d { b with levelUsed := used, lowSuction := low }
        notices := s.notices.set (.district d)
          ((if low = true ∧ b.lowSuction = false then (s.notices.get (.district d)).post .lowSuction
            else s.notices.get (.district d)).post .levelAged)
        disp := if low = b.lowSuction then s.disp else { s.disp with request := true } } := by
  rw [State.ageBay, h]
  dsimp only
  rw [State.applyBay_recompute s d b hused hlow, State.onlyIf_true]
  by_cases hset : low = true ∧ b.lowSuction = false <;> simp [State.postTo, State.setNotice, hset]

end Ageing

theorem River.takeStageAgeing_due {r : River} (hdue : r.stageDue = true) :
    r.takeStageAgeing =
      ({ r with stageAge := if r.stage = none then r.stageAge else nextAge r.stageAge, stageDue := false },
        decide (r.stage ≠ none ∧ (nextAge r.stageAge = 60 ∨ nextAge r.stageAge = 300))) := by
  cases hstage : r.stage with
  | none => simp [River.takeStageAgeing, hdue, hstage]
  | some v => simp [River.takeStageAgeing, hdue, hstage, fallAge]

/-- Settles O42. -/
theorem freshnessFallsAtItsMark : Obligations.FreshnessFallsAtItsMark := by
  refine ⟨fun d s => ?_, fun s => ?_⟩
  · intro b c age
    rw [exec_freshnessFall]
    refine ⟨fun h => State.whileUp_nothing fun hup => ?_, fun hup hdue hstands => ?_, ?_⟩
    · have hearly : b.ageDue = false := h.resolve_right (by simp [hup])
      rw [State.ageBay_record (Bay.takeAgeing_early hearly)]
      simp
    · rw [State.whileUp_up _ hup]
      exact congrArg _ (State.ageBay_record (Bay.takeAgeing_stands hdue hstands))
    · intro l hup hdue hreport hage used low n
      rw [State.whileUp_up _ hup]
      refine congrArg _ (State.ageBay_falls ((Bay.takeAgeing_reported hdue hreport).trans (if_pos hage)) ?_ rfl)
      have h300 : 300 ≤ age ↔ age = 300 := by omega
      simp only [levelUsedOf, hreport, used]
      exact branch_congr h300 _ _
  · intro v age
    rw [exec_stageFreshnessFall]
    refine ⟨fun h => State.whileUp_nothing fun hup => ?_, fun hup hdue => ?_⟩
    · have hearly : v.stageDue = false := h.resolve_right (by simp [hup])
      simp [State.ageStage, River.takeStageAgeing, show s.river.stageDue = false from hearly, State.setRiver]
    · rw [State.whileUp_up _ hup, State.ageStage, River.takeStageAgeing_due hdue]
      by_cases hfalls : v.stage ≠ none ∧ (age = 60 ∨ age = 300)
      · rw [if_pos hfalls]
        exact congrArg _ (if_pos (decide_eq_true hfalls))
      · rw [if_neg hfalls]
        exact congrArg _ (if_neg (Bool.eq_false_iff.1 (decide_eq_false hfalls)))

/-! ### Silence (O43) -/

theorem exec_capStatusHeld (s : State) :
    exec .capStatusHeld s = s.whileUp fun s => if nextAge s.river.silence = 720 then s else s.judgeSilence := rfl

theorem exec_fallbackEvent (s : State) :
    exec .fallbackEvent s = s.whileUp fun s => if nextAge s.river.silence = 120 then s else s.judgeSilence := rfl

section Silence
variable {s : State}

theorem State.judgeSilence_early (h : s.river.silenceDue = false) : s.judgeSilence = s := by
  unfold State.judgeSilence
  rw [if_neg (by simp [h])]

theorem State.judgeSilence_held (hdue : s.river.silenceDue = true) (hage : nextAge s.river.silence = 120)
    (hlive : s.river.capStatus = .live) :
    s.judgeSilence =
      { s with
        river := { s.river with silence := 120, silenceDue := false, capStatus := .held }
        notices := s.notices.map fun n => n.post .capChanged } := by
  unfold State.judgeSilence
  dsimp only
  rw [if_pos hdue, if_neg (by omega), if_pos (by simp [hage, hlive]), hage]
  rfl

/-- A silence that a frame has restarted, or that has no effect at its age. -/
theorem State.judgeSilence_counts (hdue : s.river.silenceDue = true) (h120 : nextAge s.river.silence ≠ 120)
    (h720 : nextAge s.river.silence ≠ 720) :
    s.judgeSilence = { s with river := { s.river with silence := nextAge s.river.silence, silenceDue := false } } := by
  unfold State.judgeSilence
  dsimp only
  rw [if_pos hdue, if_neg h720, if_neg (by simp [h120])]
  rfl

theorem State.judgeSilence_fallback (hdue : s.river.silenceDue = true) (h720 : nextAge s.river.silence = 720) :
    s.judgeSilence = (s.setRiver { s.river with silence := 720, silenceDue := false }).fallback := by
  unfold State.judgeSilence
  dsimp only
  rw [if_pos hdue, if_pos h720, h720]

/-- The end of closure, field by field (R119). -/
theorem State.endClosure_eq (s : State) :
    s.endClosure =
      { s with
        river := { s.river with closure := none }
        queues := s.queues.map fun q => { q with orders := settleHead false q.orders }
        notices := s.notices.map fun n => n.post .closureChanged } := rfl

/-- The oldest order of a queue becomes ACTIVE where closure ends (R99). -/
def OrderQueue.resumedIf (ends : Prop) [Decidable ends] (q : OrderQueue) : OrderQueue :=
  { q with
    orders :=
      match q.orders with
      | [] => []
      | o :: os => (if ends then { o with state := .active } else o) :: os }

theorem map_resumedIf (ends : Prop) [Decidable ends] (qs : Tri OrderQueue) :
    qs.map (OrderQueue.resumedIf ends)
      = if ends then qs.map fun q => { q with orders := settleHead false q.orders } else qs := by
  refine Tri.eq_of_get fun d => ?_
  by_cases h : ends
  · simp only [if_pos h, Tri.get_map, OrderQueue.resumedIf]
    cases (qs.get d).orders <;> rfl
  · simp only [if_neg h, Tri.get_map, OrderQueue.resumedIf]
    obtain ⟨orders, gate, completions, unordered, pumped, drops⟩ := qs.get d
    cases orders <;> rfl

/-- The fallback event, field by field (R113, R120). -/
theorem State.fallback_eq (s : State) :
    let cap := min s.river.cap s.station.fallbackCap
    let changed := s.river.capStatus ≠ .fallback ∨ s.river.cap ≠ cap
    let ends := s.river.closure = some .reset
    s.fallback =
      { s with
        river := { s.river with cap := cap, capStatus := .fallback, closure := if ends then none else s.river.closure }
        queues := s.queues.map (OrderQueue.resumedIf ends)
        notices := s.notices.map fun m =>
          let m1 := if changed then m.post .capChanged else m
          if ends then m1.post .closureChanged else m1 } := by
  intro cap changed ends
  have hchanged : (s.river.capStatus != .fallback || s.river.cap != min s.river.cap s.station.fallbackCap)
      = decide changed := by
    rw [Bool.eq_iff_iff, Bool.or_eq_true, bne_iff_ne, bne_iff_ne, decide_eq_true_eq]
  unfold State.fallback
  dsimp only
  rw [hchanged, map_resumedIf]
  by_cases hc : changed <;> by_cases he : s.river.closure = some .reset <;>
    simp [hc, he, ends, cap, State.endClosure_eq, State.setRiver, State.postAll, State.setNotices, Ports.map, Tri.map]

end Silence

/-- Settles O43. -/
theorem silenceIsJudgedAtItsMark : Obligations.SilenceIsJudgedAtItsMark := by
  intro s v n
  rw [exec_capStatusHeld, exec_fallbackEvent]
  refine ⟨fun h => State.whileUp_nothing fun hup => ?_, fun h => State.whileUp_nothing fun hup => ?_,
    fun hup hdue hage hlive => ?_, fun hup hdue h120 h720 c hc => ?_, fun hup hdue hage => ?_⟩
  · rcases h with h | h | h
    · exact (ite_eq_left_iff.2 fun _ => State.judgeSilence_early h)
    · simp [hup] at h
    · exact if_pos h
  · rcases h with h | h | h
    · exact (ite_eq_left_iff.2 fun _ => State.judgeSilence_early h)
    · simp [hup] at h
    · exact if_pos h
  · have hne : nextAge s.river.silence ≠ 720 := by
      rw [show nextAge s.river.silence = 120 from hage]
      decide
    rw [State.whileUp_up _ hup]
    exact congrArg _ ((if_neg hne).trans (State.judgeSilence_held hdue hage hlive))
  · have hcounts := State.judgeSilence_counts hdue h120 h720
    have hexec : exec c s = .next s.judgeSilence := by
      simp only [List.mem_cons, List.not_mem_nil, or_false] at hc
      rcases hc with rfl | rfl
      · rw [exec_capStatusHeld, State.whileUp_up _ hup]
        exact congrArg _ (if_neg h720)
      · rw [exec_fallbackEvent, State.whileUp_up _ hup]
        exact congrArg _ (if_neg h120)
    rw [hexec, hcounts]
    rfl
  · intro cap changed ends
    have hne : nextAge s.river.silence ≠ 120 := by
      rw [show nextAge s.river.silence = 720 from hage]
      decide
    rw [State.whileUp_up _ hup]
    refine congrArg _ ((if_neg hne).trans ((State.judgeSilence_fallback hdue hage).trans ?_))
    exact State.fallback_eq _

/-! ### The changeover filter and SVC (O44) -/

theorem exec_pselChange (code : Fin 4) (s : State) :
    exec (.pselChange code) s = s.lineChange (fun s => s.setRiver { s.river with pselSeen := code })
      fun s => if s.river.pselSeen = code then s else s.setRiver (s.river.pselChange code) := rfl

theorem exec_profileComesIntoForce (s : State) : exec .profileComesIntoForce s = s.whileUp State.filterProfile := rfl

section Profile
variable {s : State}

theorem State.filterProfile_early (h : s.river.profileDue = false) : s.filterProfile = s := by
  simp [State.filterProfile, River.takeProfile, h, State.setRiver]

/-- A code that is in force again needs no stability. -/
theorem State.filterProfile_back (hdue : s.river.profileDue = true) (h : s.river.pselSeen = s.river.profile) :
    s.filterProfile = { s with river := { s.river with pselAge := 0, profileDue := false } } := by
  simp [State.filterProfile, River.takeProfile, hdue, h, State.setRiver]

theorem State.filterProfile_counts (hdue : s.river.profileDue = true) (h : s.river.pselSeen ≠ s.river.profile)
    (hage : s.river.pselAge = 0) :
    s.filterProfile = { s with river := { s.river with pselAge := 1, profileDue := false } } := by
  simp [State.filterProfile, River.takeProfile, hdue, h, hage, State.setRiver]

theorem State.filterProfile_inForce (hdue : s.river.profileDue = true) (h : s.river.pselSeen ≠ s.river.profile)
    (hage : 1 ≤ s.river.pselAge) :
    s.filterProfile =
      { s with
        river := { s.river with profile := s.river.pselSeen, pselAge := 0, profileDue := false }
        disp := { s.disp with request := true } } := by
  simp [State.filterProfile, River.takeProfile, hdue, h, hage, State.setRiver, State.requestEvaluation, State.setDisp]

end Profile

/-- Settles O44. -/
theorem pselFilterAndSvc : Obligations.PselFilterAndSvc := by
  intro code high s v c
  refine ⟨fun hup hmoves => ?_, fun hup hsame => ?_, fun hheld => ?_, ?_, fun h => ?_, fun hup hdue h => ?_,
    fun hup hdue h hage => ?_, fun hup hdue h hage => ?_⟩
  · rw [exec_pselChange, State.lineChange_up _ _ hup]
    exact congrArg _ (if_neg (Ne.symm hmoves))
  · rw [exec_pselChange, State.lineChange_up _ _ hup]
    exact congrArg _ (if_pos hsame.symm)
  · rw [exec_pselChange, State.lineChange_held _ _ hheld]
    rfl
  · exact congrArg _ (ite_self _)
  · exact State.whileUp_nothing fun hup => State.filterProfile_early (h.resolve_right (by simp [hup]))
  · rw [exec_profileComesIntoForce, State.whileUp_up _ hup, State.filterProfile_back hdue h]
  · rw [exec_profileComesIntoForce, State.whileUp_up _ hup, State.filterProfile_counts hdue h hage]
  · rw [exec_profileComesIntoForce, State.whileUp_up _ hup, State.filterProfile_inForce hdue h hage]

end Sys2Proof.Machine
end

section
/-! PROOFS about the second mark (sections 4.1 and 7.2, log entries 2 and 3): what it counts where nothing is due, and that it
takes what is due by the rows of `dueRows`. Settles O41. -/

namespace Sys2Proof.Machine

/-! ### Nothing due (log entry 2) -/

section Settled
variable {s : State}

theorem foldl_same {α ι : Type} {f : α → ι → α} {a : α} (h : ∀ i, f a i = a) (l : List ι) : l.foldl f a = a := by
  induction l with
  | nil => rfl
  | cons i l ih => rw [List.foldl_cons, h i, ih]

theorem State.Settled.endCommitFreely (h : s.Settled) : s.endCommitFreely = s := by
  have hnone : s.commitDue = false := by
    unfold State.commitDue
    split
    · rfl
    · next c hcommit => exact h.commit c hcommit
  exact if_neg (Bool.eq_false_iff.1 hnone)

theorem State.Settled.ageBay (h : s.Settled) (d : District) : s.ageBay d = s := by
  rw [State.ageBay_record (Bay.takeAgeing_early (h.bays d))]
  simp

theorem State.Settled.ageStage (h : s.Settled) : s.ageStage = s := by
  simp [State.ageStage, River.takeStageAgeing, h.river.1, State.setRiver]

theorem State.Settled.takeUnitDue (h : s.Settled) (i : UnitId) : s.takeUnitDue i = s := by
  obtain ⟨hhold, hrest, htimer⟩ := h.timers i
  have hhistory : (s.units.get i).ageHistory s.clock = s.units.get i := by
    unfold UnitRec.ageHistory
    split
    · rfl
    · next t ts heq => exact if_neg (Nat.not_le.2 (h.history i t ts heq))
  unfold State.takeUnitDue
  rw [State.onUnit_same (f := UnitRec.runHoldExpiry) (by simp [UnitRec.runHoldExpiry, hhold])]
  dsimp only
  rw [State.onUnit_same (f := fun u => u.restExpiry s.clock) (by simp [UnitRec.restExpiry, hrest]),
    State.onUnit_same (f := fun u => u.startTimeoutExpiry s.clock) (by simp [UnitRec.startTimeoutExpiry, htimer]),
    State.onUnit_same (f := fun u => u.stopTimeoutExpiry s.clock) (by simp [UnitRec.stopTimeoutExpiry, htimer]),
    State.onUnit_same (f := fun u => u.travelTimeoutExpiry s.clock) (by simp [UnitRec.travelTimeoutExpiry, htimer]),
    hhistory]
  simp [State.setUnit]

theorem State.Settled.cutQueue (h : s.Settled) (d : District) : s.cutQueue d = s := by
  have hnone : (s.queues.get d).orders.filter (Order.expiresAt s.clock) = [] := by
    refine List.filter_eq_nil_iff.2 fun o ho hexpires => ?_
    cases hdeadline : o.deadline with
    | none => simp [Order.expiresAt, Order.deadlineTime, hdeadline] at hexpires
    | some n =>
      refine h.deadlines d o ho n hdeadline ?_
      simpa [Order.expiresAt, Order.deadlineTime, hdeadline] using hexpires
  rw [State.cutQueue, OrderQueue.cutExpired, OrderQueue.leave_none hnone, State.applyQueue_eq]
  simp

/-- With nothing left due a mark takes nothing before it counts. -/
theorem State.Settled.takeDue (h : s.Settled) : s.takeDue = s := by
  obtain ⟨-, hsilence, hprofile⟩ := h.river
  unfold State.takeDue
  dsimp only
  rw [h.endCommitFreely, foldl_same h.ageBay, h.ageStage, State.judgeSilence_early hsilence,
    State.filterProfile_early hprofile, foldl_same h.takeUnitDue, foldl_same h.cutQueue]
  exact if_neg (Bool.eq_false_iff.1 h.evaluation)

end Settled

/-! ### The counting -/

theorem Bay.tick_eq (b : Bay) :
    b.tick =
      if b.reported = none then b
      else if b.age + 1 = 60 ∨ b.age + 1 = 300 then { b with ageDue := true }
      else { b with age := min 65535 (b.age + 1) } := by
  unfold Bay.tick
  simp only [fallAge_iff, Option.isNone_iff_eq_none]
  rfl

theorem River.tickStage_eq (v : River) (h : v.stageDue = false) :
    v.tickStage =
      { v with
        stageAge :=
          if v.stage = none ∨ v.stageAge + 1 = 60 ∨ v.stageAge + 1 = 300 then v.stageAge else min 65535 (v.stageAge + 1)
        stageDue := decide (v.stage ≠ none ∧ (v.stageAge + 1 = 60 ∨ v.stageAge + 1 = 300)) } := by
  unfold River.tickStage
  simp only [fallAge_iff, Option.isNone_iff_eq_none]
  by_cases habsent : v.stage = none
  · rw [if_pos habsent, if_pos (.inl habsent), decide_eq_false (fun hc => hc.1 habsent), ← h]
  · by_cases hfall : v.stageAge + 1 = 60 ∨ v.stageAge + 1 = 300
    · rw [if_neg habsent, if_pos hfall, if_pos (.inr hfall), decide_eq_true ⟨habsent, hfall⟩]
    · rw [if_neg habsent, if_neg hfall, if_neg (not_or_intro habsent hfall),
        decide_eq_false (fun hc => hfall hc.2), ← h]
      rfl

theorem River.tickSilence_eq (v : River) (h : v.silenceDue = false) :
    v.tickSilence =
      { v with
        silence :=
          if (v.silence + 1 = 120 ∧ v.capStatus = .live) ∨ v.silence + 1 = 720 then v.silence
          else min 65535 (v.silence + 1)
        silenceDue := decide ((v.silence + 1 = 120 ∧ v.capStatus = .live) ∨ v.silence + 1 = 720) } := by
  have hiff : v.judged (v.silence + 1) = true ↔ (v.silence + 1 = 120 ∧ v.capStatus = .live) ∨ v.silence + 1 = 720 := by
    simp [River.judged]
  unfold River.tickSilence
  by_cases hjudged : (v.silence + 1 = 120 ∧ v.capStatus = .live) ∨ v.silence + 1 = 720
  · rw [if_pos (hiff.2 hjudged), if_pos hjudged, decide_eq_true hjudged]
  · rw [if_neg ((not_congr hiff).2 hjudged), if_neg hjudged, decide_eq_false hjudged, ← h]
    rfl

theorem River.tickProfile_eq (v : River) (h : v.profileDue = false) :
    v.tickProfile =
      { v with
        pselAge := if v.pselSeen = v.profile then 0 else if 1 ≤ v.pselAge then v.pselAge else v.pselAge + 1
        profileDue := decide (v.pselSeen ≠ v.profile ∧ 1 ≤ v.pselAge) } := by
  unfold River.tickProfile
  by_cases hback : v.pselSeen = v.profile
  · simp [hback, h]
  · by_cases hstood : 1 ≤ v.pselAge <;> simp [hback, hstood, h]

theorem River.tick_eq (v : River) (h : v.stageDue = false ∧ v.silenceDue = false ∧ v.profileDue = false) :
    v.tickStage.tickSilence.tickProfile =
      { v with
        stageAge :=
          if v.stage = none ∨ v.stageAge + 1 = 60 ∨ v.stageAge + 1 = 300 then v.stageAge else min 65535 (v.stageAge + 1)
        stageDue := decide (v.stage ≠ none ∧ (v.stageAge + 1 = 60 ∨ v.stageAge + 1 = 300))
        silence :=
          if (v.silence + 1 = 120 ∧ v.capStatus = .live) ∨ v.silence + 1 = 720 then v.silence
          else min 65535 (v.silence + 1)
        silenceDue := decide ((v.silence + 1 = 120 ∧ v.capStatus = .live) ∨ v.silence + 1 = 720)
        pselAge := if v.pselSeen = v.profile then 0 else if 1 ≤ v.pselAge then v.pselAge else v.pselAge + 1
        profileDue := decide (v.pselSeen ≠ v.profile ∧ 1 ≤ v.pselAge) } := by
  obtain ⟨hstage, hsilence, hprofile⟩ := h
  have hstages := v.tickStage_eq hstage
  have hsilences := v.tickStage.tickSilence_eq (by rw [hstages]; exact hsilence)
  have hprofiles := v.tickStage.tickSilence.tickProfile_eq (by rw [hsilences, hstages]; exact hprofile)
  rw [hprofiles, hsilences, hstages]

theorem Store.tick_eq (x : Store) :
    x.tick =
      { x with
        commit := x.commit.map fun c =>
          if c.marksLeft ≤ 1 then { c with due := true } else { c with marksLeft := c.marksLeft - 1 } } := by
  obtain ⟨image, commit, defaulted⟩ := x
  cases commit with
  | none => rfl
  | some c => by_cases hlast : c.marksLeft ≤ 1 <;> simp [Store.tick, hlast]

/-! ### What is due is taken by its rows (log entry 3) -/

/-- The rows taken one after another lead from `s` to `t`, and the part stays up. -/
structure State.Runs (s : State) (cs : List Instr) (t : State) : Prop where
  run : execAll cs s = .next t
  up : t.resetN = true

section Runs
variable {s t u : State} {cs ds : List Instr}

theorem State.Runs.append (h : s.Runs cs t) (h' : t.Runs ds u) : s.Runs (cs ++ ds) u := by
  obtain ⟨hrun, -⟩ := h
  refine ⟨?_, h'.up⟩
  induction cs generalizing s with
  | nil =>
    cases hrun
    exact h'.run
  | cons c cs ih =>
    simp only [List.cons_append, execAll] at hrun ⊢
    cases hexec : exec c s with
    | next x => exact ih (by simpa [hexec] using hrun)
    | fault r => simp [hexec] at hrun
    | refused r => simp [hexec] at hrun

/-- One row of the mark. -/
theorem State.Runs.row {c : Instr} {f : State → State} (hup : s.resetN = true) (hexec : exec c s = s.whileUp f)
    (hcarries : s.Carries (f s)) : s.Runs [c] (f s) := by
  refine ⟨?_, hcarries.resetN.trans hup⟩
  simp [execAll, hexec, State.whileUp_up f hup]

/-- Rows for each of a list. -/
theorem State.Runs.each {ι : Type} {f : State → ι → State} {rows : ι → List Instr}
    (hrows : ∀ (x : State) (i : ι), x.resetN = true → x.Runs (rows i) (f x i)) (l : List ι) (hup : s.resetN = true) :
    s.Runs (l.flatMap rows) (l.foldl f s) := by
  induction l generalizing s with
  | nil => exact ⟨rfl, hup⟩
  | cons i l ih =>
    have hfirst := hrows s i hup
    exact hfirst.append (ih hfirst.up)

end Runs

section DueRows
variable {s : State}

/-- The end of the commit by its row, where the read-back of the free draw is what it is. -/
theorem State.endCommit_drawn (s : State) :
    State.endCommit
      { s with freeDraws := s.freeDraws + if ∃ c, s.store.commit = some c ∧ c.due = true then 1 else 0 }
      (Config.readBackEqual s.freeDraws) = s.endCommitFreely := by
  unfold State.endCommitFreely State.commitDue
  cases hcommit : s.store.commit with
  | none => simp [State.endCommit, hcommit]
  | some c => cases hdue : c.due <;> simp [State.endCommit, hcommit, hdue]

theorem State.Runs.silence (hup : s.resetN = true) : s.Runs [.capStatusHeld, .fallbackEvent] s.judgeSilence := by
  have hfirst := State.Runs.row (c := .capStatusHeld) hup (exec_capStatusHeld s)
  have hsecond := fun t (h : State.resetN t = true) => State.Runs.row (c := .fallbackEvent) h (exec_fallbackEvent t)
  have hjudged : s.Carries s.judgeSilence := State.Carries.refl.judgeSilence
  by_cases h720 : nextAge s.river.silence = 720
  · rw [if_pos h720] at hfirst
    have hfallback := hsecond s hup
    rw [if_neg (by omega)] at hfallback
    exact (hfirst .refl).append (hfallback hjudged)
  · rw [if_neg h720] at hfirst
    have hdone : s.judgeSilence.judgeSilence = s.judgeSilence := by
      refine State.judgeSilence_early ?_
      cases hdue : s.river.silenceDue with
      | false => rw [State.judgeSilence_early hdue, hdue]
      | true =>
        unfold State.judgeSilence
        rw [if_pos hdue]
        dsimp only
        rw [if_neg h720]
        split <;> rfl
    have hfallback := hsecond s.judgeSilence (hjudged.resetN.trans hup)
    rw [hdone, ite_self] at hfallback
    exact (hfirst hjudged).append (hfallback .refl)

/-- The rows of one unit. -/
theorem State.Runs.unit (i : UnitId) (hup : s.resetN = true) :
    s.Runs [.runHoldExpiry i, .restExpiry i, .startTimeoutExpiry i, .stopTimeoutExpiry i, .travelTimeoutExpiry i,
      .startHistoryAgeing i] (s.takeUnitDue i) := by
  have h1 := State.Runs.row hup (exec_runHoldExpiry i s) (State.Carries.refl.onUnit i _)
  have h2 := h1.append (.row h1.up (exec_restExpiry i _) (State.Carries.refl.onUnit i _))
  have h3 := h2.append (.row h2.up (exec_startTimeoutExpiry i _) (State.Carries.refl.onUnit i _))
  have h4 := h3.append (.row h3.up (exec_stopTimeoutExpiry i _) (State.Carries.refl.onUnit i _))
  have h5 := h4.append (.row h4.up (exec_travelTimeoutExpiry i _) (State.Carries.refl.onUnit i _))
  exact h5.append (.row h5.up (exec_startHistoryAgeing i _) ⟨rfl, rfl⟩)

theorem exec_evaluation (s : State) : exec .evaluation s = s.whileUp State.evaluateIfDue := rfl

/-- What the last mark left due is taken by the rows of log entry 3, with the read-back of the free draw. -/
theorem State.Runs.takeDue (hup : s.resetN = true) :
    State.Runs { s with freeDraws := s.freeDraws + if ∃ c, s.store.commit = some c ∧ c.due = true then 1 else 0 }
      (dueRows (Config.readBackEqual s.freeDraws)) s.takeDue := by
  have hcommit := State.Runs.row (s := { s with
      freeDraws := s.freeDraws + if ∃ c, s.store.commit = some c ∧ c.due = true then 1 else 0 }) hup
    (exec_commitEnd (Config.readBackEqual s.freeDraws) _) (State.Carries.refl.endCommit _)
  rw [State.endCommit_drawn] at hcommit
  have hbays := State.Runs.each (f := State.ageBay) (rows := fun d => [.freshnessFall d])
    (fun x d h => .row h (exec_freshnessFall d x) (State.Carries.refl.ageBay d)) districts hcommit.up
  have hstage := State.Runs.row hbays.up (exec_stageFreshnessFall _) State.Carries.refl.ageStage
  have hsilence := State.Runs.silence hstage.up
  have hprofile := State.Runs.row hsilence.up (exec_profileComesIntoForce _) State.Carries.refl.filterProfile
  have hunits := State.Runs.each (f := State.takeUnitDue) (fun _ i h => State.Runs.unit i h) unitIds hprofile.up
  have hqueues := State.Runs.each (f := State.cutQueue) (rows := fun d => [.deadlineExpiry d])
    (fun x d h => .row h (exec_deadlineExpiry d x) (State.Serves.refl.cutQueue d).carries) districts hunits.up
  have hevaluation := State.Runs.row hqueues.up (exec_evaluation _) State.Serves.refl.evaluateIfDue.carries
  exact ((((((hcommit.append hbays).append (hstage.append (hsilence.append hprofile)))).append hunits).append
    hqueues).append hevaluation)

end DueRows

/-- Settles O41. -/
theorem secondMarkCounts : Obligations.SecondMarkCounts := by
  intro s tick v
  have hexec : exec .secondMark s = s.whileUp State.secondMark := rfl
  refine ⟨fun hheld => ?_, fun hup hsettled => ?_, fun hup => ?_⟩
  · rw [hexec, State.whileUp_held _ hheld]
  · refine ⟨s.tick, ?_, rfl, fun d => ?_, River.tick_eq s.river hsettled.river, fun i => ?_, Store.tick_eq s.store, ?_, rfl⟩
    · rw [hexec, State.whileUp_up _ hup, State.secondMark, hsettled.takeDue]
    · exact (Tri.get_map ..).trans (Bay.tick_eq _)
    · exact Oct.get_map ..
    · simp [State.tick, Dispatcher.owes, Bool.decide_or]
  · refine ⟨Config.readBackEqual s.freeDraws, s.takeDue, (State.Runs.takeDue hup).run, ?_⟩
    rw [hexec, State.whileUp_up _ hup]
    rfl

end Sys2Proof.Machine
end

section
/-! PROOFS about CLEAR TRIP, the river commands but CLOSE STATION, and WRITE UNIT CONFIG: settles O29, O30, O32 and O34. -/

namespace Sys2Proof.Machine

/-! ### CLEAR TRIP (O29) -/

section ClearTrip
variable {s : State} {p : PortId} {unit chk : Byte} {i : UnitId} {u : UnitRec}

theorem State.heardOn_disp (s : State) (p : PortId) : (s.heardOn p).disp = s.disp := by cases p <;> rfl

theorem exec_clearTrip_bad (h : s.accepts ⟨p, 0x0A, [unit], chk⟩) (hunit : 7 < unit.toNat) :
    exec (.clearTrip p unit chk) s = .next ((s.heardOn p).answer ⟨p, 0x0A, [unit], chk⟩ [0x20]) := by
  refine (State.takeFrame_accepts _ h).trans ?_
  rw [unitOf_eq_none hunit]
  exact congrArg _ (Reply.deliver_eq ..)

/-- CLEAR TRIP of a unit: the record that R65 gives it, and OK or NOT_CLEARABLE. -/
theorem exec_clearTrip {v : UnitRec} {ok : Bool} (h : s.accepts ⟨p, 0x0A, [unit], chk⟩) (hunit : unit.toNat = i.val)
    (hclear : (s.units.get i).clearTrip p = (v, ok)) :
    exec (.clearTrip p unit chk) s =
      .next (State.answer { s.heardOn p with units := s.units.set i v } ⟨p, 0x0A, [unit], chk⟩
        [if ok = true then 0x00 else 0x24]) := by
  refine (State.takeFrame_accepts _ h).trans ?_
  rw [unitOf_eq_some hunit]
  dsimp only
  rw [State.heardOn_units, hclear]
  refine congrArg _ ((Reply.deliver_eq ..).trans ?_)
  rw [State.setUnit, State.heardOn_units]
  cases ok <;> rfl

/-- CLEAR TRIP that changes no record. -/
theorem exec_clearTrip_same {ok : Bool} (h : s.accepts ⟨p, 0x0A, [unit], chk⟩) (hunit : unit.toNat = i.val)
    (hclear : (s.units.get i).clearTrip p = (s.units.get i, ok)) :
    exec (.clearTrip p unit chk) s =
      .next ((s.heardOn p).answer ⟨p, 0x0A, [unit], chk⟩ [if ok = true then 0x00 else 0x24]) := by
  rw [exec_clearTrip h hunit hclear, Oct.set_get, ← State.heardOn_units s p]

theorem UnitRec.clearTrip_elsewhere (h : u.state ≠ .tripped) : u.clearTrip p = (u, true) := if_neg h

theorem UnitRec.clearTrip_refused (h : u.state = .tripped) (hlines : u.atSpeed = true ∨ u.selPos = 3) :
    u.clearTrip p = (u, false) := by
  unfold UnitRec.clearTrip
  rw [if_pos h]
  by_cases hspeed : u.atSpeed = true
  · rw [if_pos hspeed]
  · rw [if_neg hspeed, UnitRec.selBay_between.2 (hlines.resolve_left hspeed)]

theorem UnitRec.clearTrip_taken {b : District} (h : u.state = .tripped) (hspeed : u.atSpeed = false)
    (hpos : u.selPos.val = b.val) :
    u.clearTrip p =
      (if u.avail = true ∧ u.cfg.enable = true then { u.restingAt b with clearedBy := some p }
        else { u with state := .offline, tripReason := none, clearedBy := some p }, true) := by
  unfold UnitRec.clearTrip
  rw [if_pos h, if_neg (by simp [hspeed]), UnitRec.selBay_at.2 hpos]
  dsimp only
  by_cases hserves : u.avail = true ∧ u.cfg.enable = true
  · rw [if_pos hserves, if_pos (by simp [hserves]), UnitRec.beginRestAt_eq]
  · rw [if_neg hserves, if_neg (by simpa using hserves)]

end ClearTrip

/-- Settles O29. -/
theorem clearTripReturnsTheUnit : Obligations.ClearTripReturnsTheUnit := by
  intro p unit chk s f haccepts h c
  refine ⟨exec_clearTrip_bad haccepts, fun i hunit => ⟨fun hstate => ?_, fun hstate hlines => ?_, ?_⟩⟩
  · exact exec_clearTrip_same haccepts hunit (UnitRec.clearTrip_elsewhere hstate)
  · exact exec_clearTrip_same haccepts hunit (UnitRec.clearTrip_refused hstate hlines)
  · intro b hstate hspeed hpos
    have htaken := UnitRec.clearTrip_taken (p := p) hstate hspeed hpos
    refine ⟨fun havail henable => ?_, fun hserves => ?_⟩
    · rw [if_pos ⟨havail, henable⟩] at htaken
      exact exec_clearTrip haccepts hunit htaken
    · rw [if_neg (by rcases hserves with h | h <;> simp [h])] at htaken
      exact exec_clearTrip haccepts hunit htaken

/-! ### SET CAP and REPORT STAGE (O30) -/

/-- The answer to a number taken as it is or clamped. -/
theorem okOrClamped_bne {α : Type} [BEq α] [LawfulBEq α] [DecidableEq α] (v w : α) :
    (okOrClamped (v != w)).byte = if v = w then 0x00 else 0x01 := by
  rw [okOrClamped_byte]
  by_cases h : v = w <;> simp [h]

/-- Settles O30. -/
theorem setCapAndReportStage : Obligations.SetCapAndReportStage := by
  intro arg chk s capFrame stageFrame h v
  refine ⟨fun haccepts => ?_, fun haccepts => ?_⟩
  · have hcap : clampCap arg = min 60000 arg.toNat := Nat.zero_max _
    have hposts : (s.heardOn .river).notices.map (fun n => n.post .capChanged) = s.notices.map fun n => n.post .capChanged := by
      by_cases hlive : s.river.capStatus = .live <;> simp [State.heardOn, hlive, Ports.map, Tri.map]
    have hcode : (okOrClamped (clampCap arg != arg.toNat)).byte = if arg.toNat ≤ 60000 then 0x00 else 0x01 := by
      rw [okOrClamped_bne, hcap]
      exact branch_congr (by omega) _ _
    refine (State.takeFrame_accepts _ haccepts).trans (congrArg _ ((Reply.deliver_eq ..).trans ?_))
    rw [hcode, hcap]
    exact congrArg (fun n => State.answer { s with
      river := { s.river with cap := min 60000 arg.toNat, capStatus := .live, silence := 0 }
      notices := n, disp := { s.disp with request := true } } capFrame [if arg.toNat ≤ 60000 then 0x00 else 0x01]) hposts
  · refine (State.takeFrame_accepts _ haccepts).trans (congrArg _ ((Reply.deliver_eq ..).trans ?_))
    rw [okOrClamped_bne]
    rfl

/-! ### LIFT CLOSURE (O32) -/

/-- The oldest order of a queue becomes ACTIVE. -/
theorem settleHead_eq (closed : Bool) (os : List Order) :
    settleHead closed os =
      match os with
      | [] => []
      | o :: os => { o with state := headState closed } :: os := by
  cases os <;> rfl

/-- Settles O32. -/
theorem liftClosureEndsClosure : Obligations.LiftClosureEndsClosure := by
  intro chk s f haccepts h
  refine ⟨fun hopen => ?_, fun hclosed => ?_⟩
  · refine (State.takeFrame_accepts _ haccepts).trans (congrArg _ ((Reply.deliver_eq ..).trans ?_))
    rw [State.liftClosure, show (s.heardOn f.port).river.closure = none from hopen]
    rfl
  · refine (State.takeFrame_accepts _ haccepts).trans (congrArg _ ((Reply.deliver_eq ..).trans ?_))
    cases hclosure : s.river.closure with
    | none => exact absurd hclosure hclosed
    | some origin =>
      rw [State.liftClosure, show (s.heardOn f.port).river.closure = some origin from hclosure]
      dsimp only
      rw [State.endClosure_eq]
      simp only [settleHead_eq]
      rfl

/-! ### WRITE UNIT CONFIG (O34) -/

section Configure
variable {u : UnitRec} {now : Second} {c : UnitConfig}

/-- In a busy state the configuration waits (R83). -/
theorem UnitRec.configure_busy
    (h : u.state = .resting ∨ u.state = .switching ∨ u.state = .starting ∨ u.state = .running ∨ u.state = .stopping) :
    u.configure now c = { unit := { u with pendingCfg := some c } } := by
  unfold UnitRec.configure
  rcases h with h | h | h | h | h <;> rw [h]

/-- The departure test of a unit in OFFLINE that a configuration brings (R47, R84). -/
def UnitRec.DepartsWith (u : UnitRec) (c : UnitConfig) : Prop :=
  u.state = .offline ∧ c.enable = true ∧ u.avail = true ∧ u.atSpeed = false

theorem UnitRec.configure_inForce
    (h : u.state = .tripped ∨ (u.state = .idle ∧ c.enable = true) ∨ (u.state = .offline ∧ ¬u.DepartsWith c)) :
    u.configure now c = { unit := { u with cfg := c } } := by
  unfold UnitRec.configure
  rcases h with h | ⟨h, henable⟩ | ⟨h, hstays⟩ <;> rw [h]
  · exact if_pos henable
  · by_cases henable : c.enable = true
    · refine (if_pos henable).trans (UnitRec.departureTest_stays fun hpass => hstays ?_)
      exact ⟨h, henable, hpass.1, hpass.2.2⟩
    · exact if_neg henable

/-- An enable of no takes an IDLE unit out of service (R47). -/
theorem UnitRec.configure_disables (hsound : u.Sound true) (h : u.state = .idle) (hdisable : c.enable = false) :
    u.configure now c = { unit := { u with cfg := c, state := .offline }, wentOffline := true } := by
  have hpending : u.pendingCfg = none := hsound.no_pending (.inr (.inl h))
  obtain ⟨hrun, hhold⟩ := hsound.quiet (by simp [h])
  have hevent : u.configure now c = ({ u with cfg := c } : UnitRec).goOffline now := by
    unfold UnitRec.configure
    rw [h]
    exact if_neg (Bool.eq_false_iff.1 hdisable)
  rw [hevent, UnitRec.goOffline_standing (by simp [h]) (by simp [hpending]), UnitRec.outOfService]
  simp [hpending, hrun, hhold, hsound.rest_zero (by simp [h]), hsound.stateTimer_zero (by simp [h]), Timer.zero]

theorem UnitRec.configure_departs (h : u.DepartsWith c) :
    u.configure now c = ({ u with cfg := c } : UnitRec).departureTest now := by
  obtain ⟨hoff, henable, -, -⟩ := h
  unfold UnitRec.configure
  rw [hoff]
  exact if_pos henable

theorem UnitRec.configure_rests (hsound : u.Sound true) (h : u.DepartsWith c) {b : District} (hpos : u.selPos.val = b.val) :
    u.configure now c = { unit :=
      { u with
        cfg := c, state := .resting, rest := { left := c.minRest, due := false }, commandedBay := b, selCmd := some b } } := by
  obtain ⟨hoff, henable, havail, hspeed⟩ := h
  rw [UnitRec.configure_departs ⟨hoff, henable, havail, hspeed⟩,
    UnitRec.departureTest_rests (u := { u with cfg := c }) (b := b) ⟨havail, henable, hspeed⟩ hpos, UnitRec.restingAt]
  simp [hsound.no_trip (by simp [hoff]), hsound.stateTimer_zero (by simp [hoff]), Timer.zero]

theorem UnitRec.configure_trips (hsound : u.Sound true) (h : u.DepartsWith c) (hpos : u.selPos = 3) :
    u.configure now c =
      { unit :=
          { u with
            cfg := c, state := .tripped, tripReason := some .selector, stateTimer := { left := 0, due := false } }
        tripped := true } := by
  obtain ⟨hoff, henable, havail, hspeed⟩ := h
  have hpending : u.pendingCfg = none := hsound.no_pending (.inl hoff)
  obtain ⟨hrun, hhold⟩ := hsound.quiet (by simp [hoff])
  rw [UnitRec.configure_departs ⟨hoff, henable, havail, hspeed⟩,
    UnitRec.departureTest_trips (u := { u with cfg := c }) ⟨havail, henable, hspeed⟩ hpos,
    UnitRec.trip_standing (by simp [hoff]), UnitRec.trippedBy]
  simp [hpending, hrun, hhold, hsound.rest_zero (by simp [hoff]), Timer.zero]

end Configure

section WriteUnitConfig
variable {s : State} {p : PortId} {a : UnitArgs} {chk : Byte} {i : UnitId} {c : UnitConfig}

theorem exec_writeUnitConfig_bad (h : s.accepts ⟨p, 0x61, a.bytes, chk⟩) (hbad : unitRecord a = none) :
    exec (.writeUnitConfig p a chk) s = .next ((s.heardOn p).answer ⟨p, 0x61, a.bytes, chk⟩ [0x20]) := by
  refine (State.takeFrame_accepts _ h).trans ?_
  rw [hbad]
  exact congrArg _ (Reply.deliver_eq ..)

/-- A write that is taken, by what the handing over does to the unit. -/
theorem exec_writeUnitConfig_taken {v : UnitRec} {post : NoticePort → NoticePort} {request : Bool}
    (h : s.accepts ⟨p, 0x61, a.bytes, chk⟩) (hgood : unitRecord a = some (i, c))
    (hevent : ∀ t : State, t.applyUnit i ((s.units.get i).configure s.clock c) = t.unitTo i v post request) :
    exec (.writeUnitConfig p a chk) s =
      .next (State.answer
        { s.heardOn p with
          units := s.units.set i v
          notices := (s.heardOn p).notices.map fun n => (post n).post .configChanged
          disp := if request = true then { s.disp with request := true } else s.disp }
        ⟨p, 0x61, a.bytes, chk⟩ [(okOrClamped (unitClamped a c)).byte]) := by
  refine (State.takeFrame_accepts _ h).trans ?_
  rw [hgood]
  dsimp only
  have hheard : ((s.heardOn p).units.get i).configure (s.heardOn p).clock c = (s.units.get i).configure s.clock c := by
    rw [State.heardOn_units, State.heardOn_clock]
  rw [hheard, hevent]
  refine congrArg _ ((Reply.deliver_eq ..).trans ?_)
  rw [State.unitTo, State.heardOn_units, State.heardOn_disp]
  rfl

theorem unitRecord_bad (h : 7 < a.unit.toNat ∨ 1 < a.enable.toNat ∨ 3 < a.cls.toNat ∨ a.reach.toNat % 8 = 0) :
    unitRecord a = none := by
  unfold unitRecord
  split
  case h_1 j en cls r hunit henable hcls hreach =>
    exfalso
    rcases h with h | h | h | h
    · rw [unitOf_eq_none h] at hunit
      cases hunit
    · rw [yesNoOf_eq_none h] at henable
      cases henable
    · rw [classOf_eq_none h] at hcls
      cases hcls
    · rw [reachOf_eq, if_pos h] at hreach
      cases hreach
  case h_2 => rfl

end WriteUnitConfig

/-- Settles O34. -/
theorem writeUnitConfigHandsOver : Obligations.WriteUnitConfigHandsOver := by
  intro p a chk s f haccepts h c bad
  refine ⟨fun hbad => exec_writeUnitConfig_bad haccepts (unitRecord_bad hbad), ?_⟩
  intro i cls hgood hunit hcls hsound u zero r code goes departs
  obtain ⟨-, henable, -, hreach⟩ : ¬7 < a.unit.toNat ∧ ¬1 < a.enable.toNat ∧ ¬3 < a.cls.toNat ∧ ¬a.reach.toNat % 8 = 0 := by
    simpa [bad, not_or] using hgood
  have hrecord : unitRecord a = some (i, r) := by
    rw [unitRecord, unitOf_eq_some hunit, yesNoOf_eq_some (Nat.le_of_not_lt henable), classOf_eq_some hcls, reachOf_eq,
      if_neg hreach]
    rfl
  have hcode : (okOrClamped (unitClamped a r)).byte = code := by
    have hclamped : unitClamped a r = true ↔ ¬(r.minRun = a.minRun.toNat ∧ r.minRest = a.minRest.toNat
        ∧ r.maxStarts = a.maxStarts.toNat ∧ r.startTimeout = a.startTimeout.toNat ∧ r.stopTimeout = a.stopTimeout.toNat
        ∧ r.travelTimeout = a.travelTimeout.toNat) := by
      simp only [unitClamped, Bool.or_eq_true, bne_iff_ne, ne_eq, Classical.not_and_iff_not_or_not, or_assoc]
    rw [okOrClamped_byte, branch_congr hclamped, ite_not]
  have hgoes : ∀ {v : UnitRec} {post : NoticePort → NoticePort} {request : Bool},
      (∀ t : State, t.applyUnit i (u.configure s.clock r) = t.unitTo i v post request) → goes v post request := by
    intro v post request hevent
    have htaken := exec_writeUnitConfig_taken haccepts hrecord hevent
    rw [hcode] at htaken
    exact htaken
  refine ⟨fun hbusy => hgoes fun t => ?_, fun hforce => hgoes fun t => ?_, fun hidle => hgoes fun t => ?_,
    fun b hdeparts hpos => hgoes fun t => ?_, fun hdeparts hpos => hgoes fun t => ?_⟩
  · rw [UnitRec.configure_busy hbusy]
    rfl
  · rw [UnitRec.configure_inForce hforce]
    rfl
  · rw [UnitRec.configure_disables hsound hidle.1 hidle.2]
    rfl
  · rw [UnitRec.configure_rests hsound hdeparts hpos]
    rfl
  · rw [UnitRec.configure_trips hsound hdeparts hpos]
    rfl

end Sys2Proof.Machine
end

section
/-! PROOFS about events of several units in one operation and the credits they send (chapter 8), and CLOSE STATION: settles
O31. -/

namespace Sys2Proof.Machine

/-! ### Events of several units -/

/-- Events carried out at the units of a list, one after another. -/
def State.applyEach (s : State) (ev : UnitId → UnitEffect) (l : List UnitId) : State :=
  l.foldl (fun t i => t.applyUnit i (ev i)) s

section Serves
variable {s t : State}

theorem State.Serves.clock (h : s.Serves t) : t.clock = s.clock := by
  have := congrArg State.clock h.same
  exact this

theorem State.Serves.river (h : s.Serves t) : t.river = s.river := by
  have := congrArg State.river h.same
  exact this

theorem State.Serves.closed (h : s.Serves t) : t.closed = s.closed := by rw [State.closed, State.closed, h.river]

theorem State.Serves.bays (h : s.Serves t) : t.bays = s.bays := by
  have := congrArg State.bays h.same
  exact this

theorem State.Serves.curves (h : s.Serves t) : t.curves = s.curves := by
  have := congrArg State.curves h.same
  exact this

theorem State.Serves.station (h : s.Serves t) : t.station = s.station := by
  have := congrArg State.station h.same
  exact this

end Serves

section Each
variable {s : State} {ev : UnitId → UnitEffect}

theorem State.applyEach_cons (i : UnitId) (l : List UnitId) :
    s.applyEach ev (i :: l) = (s.applyUnit i (ev i)).applyEach ev l := rfl

theorem State.applyEach_serves (l : List UnitId) : s.Serves (s.applyEach ev l) :=
  .foldl (fun _ i => State.Serves.refl.applyUnit i _) l .refl

/-- Events that depend on their own unit's record alone are those of the records before the first of them. -/
theorem State.foldl_applyUnit_eq {f : State → UnitId → UnitEffect}
    (hlocal : ∀ x i, s.Serves x → x.units.get i = s.units.get i → f x i = f s i) {l : List UnitId} (hnodup : l.Nodup) :
    l.foldl (fun t i => t.applyUnit i (f t i)) s = s.applyEach (f s) l := by
  have hfrom : ∀ (l : List UnitId) (x : State), l.Nodup → s.Serves x → (∀ i ∈ l, x.units.get i = s.units.get i) →
      l.foldl (fun t i => t.applyUnit i (f t i)) x = x.applyEach (f s) l := by
    intro l
    induction l with
    | nil => exact fun _ _ _ _ => rfl
    | cons i l ih =>
      intro x hl hx hsame
      obtain ⟨hi, hl⟩ := List.nodup_cons.1 hl
      rw [List.foldl_cons, State.applyEach_cons, hlocal x i hx (hsame i List.mem_cons_self)]
      refine ih _ hl (hx.applyUnit i _) fun j hj => ?_
      rw [(x.applyUnit_frame i _).1, Oct.get_set, if_neg (by rintro rfl; exact hi hj)]
      exact hsame j (List.mem_cons_of_mem i hj)
  exact hfrom l s hnodup .refl fun _ _ => rfl

theorem State.applyEach_units (l : List UnitId) (j : UnitId) :
    (s.applyEach ev l).units.get j = if j ∈ l then (ev j).unit else s.units.get j := by
  induction l generalizing s with
  | nil => rfl
  | cons i l ih =>
    rw [State.applyEach_cons, ih, (s.applyUnit_frame i _).1, Oct.get_set]
    by_cases hj : j ∈ l
    · simp [hj]
    · by_cases hji : j = i <;> simp [hji, hj]

/-- The credits of the events reach the queues in their order. -/
theorem State.applyEach_queue (l : List UnitId) (d : District) :
    (s.applyEach ev l).queues.get d =
      ((s.queues.get d).takeCredits s.closed s.clock (l.flatMap fun i => (ev i).creditsTo d)).queue := by
  induction l generalizing s with
  | nil => rfl
  | cons i l ih =>
    have hserves : s.Serves (s.applyUnit i (ev i)) := State.Serves.refl.applyUnit i _
    rw [State.applyEach_cons, ih, State.applyUnit_queue, hserves.clock, hserves.closed, List.flatMap_cons,
      (OrderQueue.takeCredits_append ..).1]

/-- Events that neither trip nor take out of service. -/
def QuietEvents (ev : UnitId → UnitEffect) : Prop := ∀ i, (ev i).wentOffline = false ∧ (ev i).tripped = false

theorem State.holds_applyEach (hquiet : QuietEvents ev) (l : List UnitId) (p : PortId) (k : NoticeKind) :
    holds ((s.applyEach ev l).notices.get p).set k
      = (holds (s.notices.get p).set k || s.creditsPost (fun d => l.flatMap fun i => (ev i).creditsTo d) p k) := by
  induction l generalizing s with
  | nil => cases p <;> simp [State.applyEach, State.creditsPost]
  | cons i l ih =>
    have hserves : s.Serves (s.applyUnit i (ev i)) := State.Serves.refl.applyUnit i _
    obtain ⟨hoff, htrip⟩ := hquiet i
    rw [State.applyEach_cons, ih, State.holds_applyUnit, hoff, htrip]
    cases p with
    | river => simp [State.creditsPost]
    | district d =>
      simp only [State.creditsPost, State.applyUnit_queue, hserves.clock, hserves.closed, List.flatMap_cons,
        (OrderQueue.takeCredits_append ..).2, Bool.false_and, Bool.or_false, Bool.or_assoc]

/-- The river port's record stands: credits post to district ports alone. -/
theorem State.applyEach_river (hquiet : QuietEvents ev) (l : List UnitId) :
    (s.applyEach ev l).notices.river = s.notices.river := by
  induction l generalizing s with
  | nil => rfl
  | cons i l ih =>
    obtain ⟨hoff, htrip⟩ := hquiet i
    rw [State.applyEach_cons, ih]
    simp only [State.applyUnit, hoff, htrip, State.onlyIf_false, State.sendCredit_eq]
    split
    · rfl
    · rw [State.applyQueue_eq]
      dsimp only
      split <;> rfl

theorem State.applyEach_disp (hquiet : QuietEvents ev) (l : List UnitId) : (s.applyEach ev l).disp = s.disp := by
  induction l generalizing s with
  | nil => rfl
  | cons i l ih =>
    rw [State.applyEach_cons, ih, (s.applyUnit_frame i _).2.2, (hquiet i).2]
    rfl

/-- Events of all units that credit what each unit owes to its bay send the credits of the claims (R149, R150). -/
theorem creditsTo_creditsFor (hcredits : ∀ i, (ev i).Credits (s.units.get i).commandedBay ((s.units.get i).owes s.clock))
    (d : District) : (unitIds.flatMap fun i => (ev i).creditsTo d) = s.creditsFor d := by
  unfold State.creditsFor
  induction unitIds with
  | nil => rfl
  | cons i l ih =>
    rw [List.flatMap_cons, ih, (hcredits i).creditsTo]
    by_cases h : d = (s.units.get i).commandedBay ∧ (s.units.get i).owes s.clock ≠ 0
    · have h' : (s.units.get i).commandedBay = d ∧ (s.units.get i).owes s.clock ≠ 0 := ⟨h.1.symm, h.2⟩
      rw [if_pos h, List.filter_cons_of_pos (by simpa using h'), List.map_cons]
      rfl
    · have h' : ¬((s.units.get i).commandedBay = d ∧ (s.units.get i).owes s.clock ≠ 0) := fun hn => h ⟨hn.1.symm, hn.2⟩
      rw [if_neg h, List.filter_cons_of_neg (by simpa using h'), List.nil_append]

end Each

/-! ### Credits of one queue -/

section Credits
variable {q : OrderQueue} {closed : Bool} {now : Second}

theorem OrderQueue.credit_pumped (c : Nat) : (q.credit closed now c).queue.pumped = min 281474976710655 (q.pumped + c) := by
  unfold OrderQueue.credit
  dsimp only
  split <;> rfl

/-- Credits raise the pumped total by their sum (R109, R152). -/
theorem OrderQueue.takeCredits_pumped {cs : List Nat} (h : cs ≠ []) :
    (q.takeCredits closed now cs).queue.pumped = min 281474976710655 (q.pumped + cs.sum) := by
  induction cs generalizing q with
  | nil => exact absurd rfl h
  | cons c cs ih =>
    simp only [OrderQueue.takeCredits_cons, List.sum_cons]
    cases cs with
    | nil => simp [OrderQueue.credit_pumped]
    | cons c' cs =>
      rw [ih (List.cons_ne_nil c' cs), OrderQueue.credit_pumped]
      omega

/-- The oldest order of the list, if there is one, is SUSPENDED. -/
def OrderQueue.HeadSuspended (q : OrderQueue) : Prop := ∀ o os, q.orders = o :: os → o.state = .suspended

theorem headSuspended_settleHead {orders : List Order} {o : Order} {os : List Order}
    (h : settleHead true orders = o :: os) : o.state = .suspended := by
  cases orders with
  | nil => cases h
  | cons x xs =>
    cases h
    rfl

/-- A credit under closure leaves a SUSPENDED order at the head (R90). -/
theorem OrderQueue.HeadSuspended.credit (h : q.HeadSuspended) (c : Nat) : (q.credit true now c).queue.HeadSuspended := by
  intro o os horders
  unfold OrderQueue.credit at horders
  dsimp only at horders
  split at horders
  · next hnone =>
    cases hlist : q.orders with
    | nil =>
      rw [hlist] at horders
      cases horders
    | cons x xs =>
      rw [hlist] at horders hnone
      by_cases hroom : c < x.remaining
      · simp only [spend, if_pos hroom] at horders
        cases horders
        exact h x _ hlist
      · simp only [spend, if_neg hroom, List.isEmpty_cons] at hnone
        cases hnone
  · exact headSuspended_settleHead horders

theorem OrderQueue.HeadSuspended.takeCredits (h : q.HeadSuspended) (cs : List Nat) :
    (q.takeCredits true now cs).queue.HeadSuspended := by
  induction cs generalizing q with
  | nil => exact h
  | cons c cs ih => exact ih (h.credit c)

end Credits

section Litres
variable {s : State} {d : District}

theorem State.mem_creditsFor {c : Nat} (h : c ∈ s.creditsFor d) : c ≠ 0 := by
  obtain ⟨i, hi, rfl⟩ := List.mem_map.1 h
  have hchosen := (List.mem_filter.1 hi).2
  exact (of_decide_eq_true hchosen).2

/-- The credits of a district sum to what its units owe. -/
theorem State.creditsFor_sum :
    (s.creditsFor d).sum =
      (unitIds.map fun i => if (s.units.get i).commandedBay = d then (s.units.get i).owes s.clock else 0).sum := by
  unfold State.creditsFor
  induction unitIds with
  | nil => rfl
  | cons i l ih =>
    rw [List.map_cons, List.sum_cons, ← ih]
    by_cases hbay : (s.units.get i).commandedBay = d
    · by_cases howes : (s.units.get i).owes s.clock = 0 <;> simp [hbay, howes]
    · simp [hbay]

theorem State.creditsFor_eq_nil : s.creditsFor d = [] ↔ (s.creditsFor d).sum = 0 := by
  constructor
  · intro h
    simp [h]
  · intro h
    cases hcs : s.creditsFor d with
    | nil => rfl
    | cons c cs =>
      have hc : c ≠ 0 := State.mem_creditsFor (hcs ▸ List.mem_cons_self)
      rw [hcs, List.sum_cons] at h
      omega

end Litres

/-! ### CLOSE STATION (O31) -/

section CloseStation
variable {s : State} {chk : Byte}

theorem exec_closeStation (h : s.accepts ⟨.river, 0x42, [], chk⟩) :
    exec (.closeStation .river chk) s = .next ((s.heardOn .river).closeStation.answer ⟨.river, 0x42, [], chk⟩ [0x00]) :=
  (State.takeFrame_accepts _ h).trans (congrArg _ (Reply.deliver_eq ..))

/-- A stop credits what its unit owes (R52, R149). -/
theorem UnitRec.stop_credits (u : UnitRec) (now : Second) (why : StopReason) :
    (u.stop now why).Credits u.commandedBay (u.owes now) := by
  rw [UnitRec.stop_eq]
  by_cases hduty : u.onDuty
  · rw [if_pos hduty]
    rfl
  · have howes : u.owes now = 0 := UnitRec.owes_standing fun h => hduty (.inr h)
    rw [if_neg hduty, howes]
    rfl

/-- The part with a COMMANDED closure in force, before the stops. -/
def State.suspended (s : State) : State := (s.setRiver { s.river with closure := some .commanded }).settleQueues

theorem State.closeStation_open (hopen : s.river.closure = none) :
    s.closeStation =
      (s.suspended.applyEach (fun i => (s.units.get i).stop s.clock .closure) unitIds).postAll .closureChanged := by
  unfold State.closeStation
  rw [hopen]
  exact congrArg (State.postAll · .closureChanged)
    (State.foldl_applyUnit_eq (s := s.suspended) (f := fun t i => (t.units.get i).stop t.clock .closure)
      (fun x i hx hi => by simp only [hi, hx.clock]) unitIds_nodup)

end CloseStation

theorem quietEvents_stop (s : State) (why : StopReason) : QuietEvents fun i => (s.units.get i).stop s.clock why := by
  intro i
  dsimp only
  rw [UnitRec.stop_eq]
  split <;> exact ⟨rfl, rfl⟩

/-- Settles O31. -/
theorem closeStationStopsEveryUnit : Obligations.CloseStationStopsEveryUnit := by
  intro chk s f haccepts h c
  rw [exec_closeStation haccepts]
  refine ⟨fun hclosed => ?_, fun hreset => ?_, fun hopen => ?_⟩
  · rw [State.closeStation, show (s.heardOn .river).river.closure = _ from hclosed]
  · rw [State.closeStation, show (s.heardOn .river).river.closure = _ from hreset]
    rfl
  · intro litres
    let ev : UnitId → UnitEffect := fun i => (h.units.get i).stop h.clock .closure
    have hquiet : QuietEvents ev := quietEvents_stop h .closure
    have hclose : h.closeStation = (h.suspended.applyEach ev unitIds).postAll .closureChanged :=
      State.closeStation_open hopen
    have hcredits : ∀ d, (unitIds.flatMap fun i => (ev i).creditsTo d) = s.creditsFor d :=
      creditsTo_creditsFor (s := s) fun i => UnitRec.stop_credits _ _ _
    have hqueue : ∀ d, (h.suspended.applyEach ev unitIds).queues.get d =
        ((h.suspended.queues.get d).takeCredits true s.clock (s.creditsFor d)).queue := by
      intro d
      rw [State.applyEach_queue, hcredits]
      rfl
    have hserves : h.suspended.Serves (h.suspended.applyEach ev unitIds) := State.applyEach_serves unitIds
    have hlitres : ∀ d, litres d = (s.creditsFor d).sum := by
      intro d
      rw [State.creditsFor_sum]
      refine congrArg List.sum (List.map_congr_left fun i _ => ?_)
      by_cases hbay : (s.units.get i).commandedBay = d <;> simp [hbay, UnitRec.owes]
    have hsuspended : ∀ d, h.suspended.queues.get d =
        { s.queues.get d with
          orders :=
            match (s.queues.get d).orders with
            | [] => []
            | o :: os => { o with state := .suspended } :: os } := by
      intro d
      refine (Tri.get_map ..).trans ?_
      rw [settleHead_eq]
      rfl
    have hholds : ∀ p k, holds ((h.closeStation.notices.get p)).set k
        = (holds (h.notices.get p).set k || h.suspended.creditsPost (fun d => s.creditsFor d) p k
            || decide (k = .closureChanged)) := by
      intro p k
      rw [hclose, State.postAll_notices, Ports.get_map, NoticePort.holds_post, State.holds_applyEach hquiet]
      simp only [hcredits]
      rfl
    refine ⟨h.closeStation, rfl, ?_, fun i => ?_, fun d o os horders => ?_, fun d hnone => ?_, fun d hsome => ?_,
      fun d => ?_, fun p => ?_, fun p k hk hfree => ?_, ?_⟩
    · rw [hclose]
      exact hserves.river
    · have hunit : h.closeStation.units.get i = (ev i).unit := by
        rw [hclose]
        exact (State.applyEach_units unitIds i).trans (if_pos (mem_unitIds i))
      rw [hunit]
      exact (congrArg UnitEffect.unit (UnitRec.stop_eq ..)).trans (apply_ite UnitEffect.unit ..)
    · have hhead : (h.suspended.queues.get d).HeadSuspended := by
        intro o os horders
        rw [show h.suspended.queues.get d = { s.queues.get d with orders := settleHead true (s.queues.get d).orders } from
          Tri.get_map ..] at horders
        exact headSuspended_settleHead horders
      rw [hclose, State.postAll_queues, hqueue] at horders
      exact hhead.takeCredits _ o os horders
    · rw [hlitres, ← State.creditsFor_eq_nil] at hnone
      rw [hclose, State.postAll_queues, hqueue, hnone]
      exact hsuspended d
    · rw [hlitres, ne_eq, ← State.creditsFor_eq_nil] at hsome
      rw [hclose, State.postAll_queues, hqueue, OrderQueue.takeCredits_pumped hsome, hlitres, hsuspended]
    · intro q suspended e n
      have he : e = (h.suspended.queues.get d).takeCredits true s.clock (s.creditsFor d) :=
        congrArg (fun x : OrderQueue => x.takeCredits true s.clock (s.creditsFor d)) (hsuspended d).symm
      have hposts : ∀ k, h.suspended.creditsPost (fun d => s.creditsFor d) (.district d) k = e.posts k := by
        intro k
        rw [he]
        rfl
      refine ⟨?_, ?_, ?_⟩
      · rw [he, hclose, State.postAll_queues, hqueue]
      · rw [hholds, hposts]
        simp [QueueEffect.posts]
      · rw [hholds, hposts]
        simp [QueueEffect.posts]
    · rw [hholds]
      simp
    · have hpost : h.suspended.creditsPost (fun d => s.creditsFor d) p k = false := by
        rcases hfree with rfl | ⟨hfinished, hoverflow⟩
        · rfl
        · cases p <;> simp [State.creditsPost, QueueEffect.posts, hfinished, hoverflow]
      simp [hholds, hpost, hk]
    · have hdisp : h.closeStation.disp = h.disp := by
        rw [hclose]
        exact State.applyEach_disp hquiet unitIds
      have hput := congrArg (fun x : Dispatcher => { h.closeStation with
        river := h.river, units := h.units, queues := h.queues, notices := h.notices, disp := x }) hdisp
      refine hput.trans ?_
      rw [hclose]
      exact congrArg (fun t : State => { t with river := h.river, queues := h.queues }) hserves.same

end Sys2Proof.Machine
end

section
/-! PROOFS about the stages of an evaluation (chapter 7), after its estimates. No unit owes a credit then, so every command of
the Dispatcher replaces unit records alone: each stage is said as the records it leaves, in the words of the claims. -/

namespace Sys2Proof.Machine

/-! ### Commands without credits -/

/-- The part with other unit records. -/
def State.withUnits (x : State) (us : Oct UnitRec) : State := { x with units := us }

/-- No unit owes a credit (R149). -/
def State.CreditsClosed (x : State) : Prop := ∀ i, (x.units.get i).owes x.clock = 0

section Commands
variable {x : State} {us : Oct UnitRec} {i : UnitId} {why : StopReason}

theorem UnitRec.stoppedBy_owes (u : UnitRec) (now t : Second) (why : StopReason) : (u.stoppedBy t why).owes now = 0 :=
  UnitRec.owes_standing (by simp)

theorem State.CreditsClosed.set (h : (x.withUnits us).CreditsClosed) {v : UnitRec} (hv : v.owes x.clock = 0) :
    (x.withUnits (us.set i v)).CreditsClosed := by
  intro j
  change ((us.set i v).get j).owes x.clock = 0
  rw [Oct.get_set]
  split
  · exact hv
  · exact h j

/-- A stop sent to a unit in STARTING or RUNNING (R52). -/
theorem State.stopUnit_onDuty (h : x.CreditsClosed) (hduty : (x.units.get i).onDuty) :
    x.stopUnit why i = x.withUnits (x.units.set i ((x.units.get i).stoppedBy x.clock why)) := by
  rw [State.stopUnit, UnitRec.stop_eq, if_pos hduty, h i, if_pos rfl]
  rfl

/-- The units of a list take a command one after another, each by its own record. -/
theorem State.foldl_commands {f : State → UnitId → State} {g : UnitRec → UnitRec}
    (hf : ∀ us i, (x.withUnits us).CreditsClosed → f (x.withUnits us) i = x.withUnits (us.set i (g (us.get i))))
    (hg : ∀ u, u.owes x.clock = 0 → (g u).owes x.clock = 0) (h : x.CreditsClosed) :
    ∃ vs, unitIds.foldl f x = x.withUnits vs ∧ (x.withUnits vs).CreditsClosed ∧ ∀ i, vs.get i = g (x.units.get i) := by
  have hfold : ∀ (l : List UnitId) (us : Oct UnitRec), (x.withUnits us).CreditsClosed →
      l.foldl f (x.withUnits us) = x.withUnits (l.foldl (fun us i => us.set i (g (us.get i))) us) := by
    intro l
    induction l with
    | nil => exact fun _ _ => rfl
    | cons i l ih =>
      intro us hus
      rw [List.foldl_cons, hf us i hus, ih (us.set i (g (us.get i))) (hus.set (hg _ (hus i))), List.foldl_cons]
  have hget : ∀ i, (unitIds.foldl (fun us i => us.set i (g (us.get i))) x.units).get i = g (x.units.get i) := by
    intro i
    rw [get_foldl_of_each (P := fun _ => True) (get := Oct.get) (f := fun us i => us.set i (g (us.get i))) (g := fun _ => g)
      (fun _ _ _ => trivial) (fun us i j _ => ?_) unitIds_nodup trivial, if_pos (mem_unitIds i)]
    rw [Oct.get_set]
    by_cases hji : j = i
    · rw [if_pos hji, if_pos hji, hji]
    · rw [if_neg hji, if_neg hji]
  refine ⟨_, hfold unitIds x.units h, fun i => ?_, hget⟩
  exact (congrArg (UnitRec.owes · x.clock) (hget i)).trans (hg _ (h i))

end Commands

/-! ### Protective and demand stops (R129, R136) -/

section Stops
variable {x : State}

/-- The record of a unit after stage 2. -/
def State.protectedUnit (x : State) (u : UnitRec) : UnitRec :=
  if u.onDuty ∧ u.estimate < x.leastOf u then u.stoppedBy x.clock .head
  else if u.onDuty ∧ (x.bays.get u.commandedBay).lowSuction = true then u.stoppedBy x.clock .suction
  else u

theorem UnitRec.commanded_iff (u : UnitRec) : u.commanded = true ↔ u.onDuty := by simp [UnitRec.commanded]

theorem State.protectUnit_eq (h : x.CreditsClosed) (i : UnitId) :
    x.protectUnit i = x.withUnits (x.units.set i (x.protectedUnit (x.units.get i))) := by
  have hnone : x.withUnits (x.units.set i (x.units.get i)) = x := by simp [State.withUnits]
  have hhead : x.meetsHead (x.units.get i) = true ↔ (x.units.get i).estimate < x.leastOf (x.units.get i) :=
    decide_eq_true_iff
  unfold State.protectUnit State.protectedUnit
  dsimp only
  by_cases hduty : (x.units.get i).onDuty
  · rw [if_pos ((UnitRec.commanded_iff _).2 hduty)]
    by_cases hlow : (x.units.get i).estimate < x.leastOf (x.units.get i)
    · rw [if_pos (hhead.2 hlow), if_pos ⟨hduty, hlow⟩, State.stopUnit_onDuty h hduty]
    · have hfits : ¬((x.units.get i).onDuty ∧ (x.units.get i).estimate < x.leastOf (x.units.get i)) := fun hc => hlow hc.2
      rw [if_neg ((not_congr hhead).2 hlow), if_neg hfits]
      by_cases hsuction : (x.bays.get (x.units.get i).commandedBay).lowSuction = true
      · rw [if_pos hsuction, if_pos ⟨hduty, hsuction⟩, State.stopUnit_onDuty h hduty]
      · have hwet : ¬((x.units.get i).onDuty ∧ (x.bays.get (x.units.get i).commandedBay).lowSuction = true) :=
          fun hc => hsuction hc.2
        rw [if_neg hsuction, if_neg hwet, hnone]
  · rw [if_neg ((not_congr (UnitRec.commanded_iff _)).2 hduty), if_neg (fun hc => hduty hc.1),
      if_neg (fun hc => hduty hc.1), hnone]

/-- Stage 2. -/
theorem State.stageProtective_spec (h : x.CreditsClosed) :
    ∃ vs, x.stageProtective = x.withUnits vs ∧ (x.withUnits vs).CreditsClosed ∧ x.ProtectiveStops x.units vs := by
  refine State.foldl_commands (g := x.protectedUnit) (fun us i hus => State.protectUnit_eq hus i) (fun u hu => ?_) h
  unfold State.protectedUnit
  split
  · exact UnitRec.stoppedBy_owes ..
  · split
    · exact UnitRec.stoppedBy_owes ..
    · exact hu

/-- The rows of a table carry what stage 3 found. -/
def RowsOf (shares : Tri Share) (w : Tri Row) : Prop :=
  ∀ d, (w.get d).demanding = (shares.get d).demanding ∧ (w.get d).urgency = (shares.get d).urgency
    ∧ (w.get d).entitlement = (shares.get d).entitlement

variable {shares : Tri Share} {w : Tri Row}

/-- Stage 5. -/
theorem State.stageDemand_spec (hrows : RowsOf shares w) (h : x.CreditsClosed) :
    ∃ vs, State.stageDemand shares x = x.withUnits vs ∧ (x.withUnits vs).CreditsClosed ∧ x.DemandStops w x.units vs := by
  refine State.foldl_commands
    (g := fun u => if (w.get u.commandedBay).demanding = false ∧ (u.state = .starting ∨ u.heldNoMore) then
      u.stoppedBy x.clock .noDemand else u) (fun us i hus => ?_) (fun u hu => ?_) h
  · have hcondition : (!(shares.get (us.get i).commandedBay).demanding
        && (decide ((us.get i).state = .starting) || (us.get i).holdExpired)) = true
        ↔ (w.get (us.get i).commandedBay).demanding = false ∧ ((us.get i).state = .starting ∨ (us.get i).heldNoMore) := by
      rw [(hrows _).1]
      simp [UnitRec.holdExpired]
    unfold State.demandStopUnit
    dsimp only
    by_cases hstops : (w.get (us.get i).commandedBay).demanding = false ∧ ((us.get i).state = .starting ∨ (us.get i).heldNoMore)
    · have hduty : (us.get i).onDuty := hstops.2.imp_right And.left
      rw [if_pos hstops]
      exact (if_pos (hcondition.2 hstops)).trans (State.stopUnit_onDuty hus hduty)
    · rw [if_neg hstops, Oct.set_get]
      exact if_neg ((not_congr hcondition).2 hstops)
  · split
    · exact UnitRec.stoppedBy_owes ..
    · exact hu

end Stops

/-! ### The sums, the budget and the choices in the words of the claims -/

section Words
variable {x : State} {shares : Tri Share} {w : Tri Row}

theorem totalOf_set (us : Oct UnitRec) (i : UnitId) (v : UnitRec) (f : UnitRec → Nat) :
    totalOf (us.set i v) f + f (us.get i) = totalOf us f + f v := by
  match i with
  | 0 | 1 | 2 | 3 | 4 | 5 | 6 | 7 =>
    simp [totalOf, unitIds, Oct.get, Oct.set]
    omega

theorem totalOf_le {us vs : Oct UnitRec} {f g : UnitRec → Nat} (h : ∀ i, f (us.get i) ≤ g (vs.get i)) :
    totalOf us f ≤ totalOf vs g := by
  unfold totalOf
  induction unitIds with
  | nil => exact Nat.le_refl _
  | cons i l ih =>
    rw [List.map_cons, List.map_cons, List.sum_cons, List.sum_cons]
    exact Nat.add_le_add (h i) ih

theorem State.withinBudget_iff (x : State) (power : Nat) : withinBudget x.budget power = true ↔ x.budgetAdmits power := by
  unfold State.budgetAdmits State.budget
  generalize x.river.profile = p
  match p with
  | 0 | 1 | 2 | 3 => simp [profileItem, withinBudget]

theorem State.deficit_eq (hrows : RowsOf shares w) (d : District) : x.deficit shares d = deficitOf w x.units d := by
  rw [State.deficit, deficitOf, State.use_eq, entitlementOf, (hrows d).2.2]

theorem State.excess_eq (hrows : RowsOf shares w) (d : District) : x.excess shares d = -deficitOf w x.units d := by
  rw [State.excess, State.deficit_eq hrows]

theorem State.overBudget_iff : x.overBudget = true ↔ ¬x.budgetAdmits (x.powerDrawn x.units - x.powerEnding x.units) := by
  rw [State.overBudget, Bool.not_eq_true', ← Bool.not_eq_true, State.withinBudget_iff, State.committedPower_eq,
    State.rundownPower_eq]

theorem State.overCap_iff : x.overCap = true ↔ x.river.cap < dischargeOf x.units := by
  rw [State.overCap, decide_eq_true_iff, State.discharge_eq]

theorem State.ready_iff (d : District) (i : UnitId) : x.ready d i = true ↔ x.ReadyFor x.units d i := by
  have hselector := (x.units.get i).selectorAt_iff (x.units.get i).commandedBay
  unfold State.ready State.ReadyFor State.meetsHead State.classOfUnit State.leastOf
  simp only [Bool.and_eq_true, decide_eq_true_eq, hselector, Bool.not_eq_true', decide_eq_false_iff_not, Nat.not_lt,
    and_assoc]
  refine and_congr_right fun _ => and_congr_right fun _ => and_congr_right fun hbay => ?_
  rw [hbay]

theorem State.fitsShare_iff (hrows : RowsOf shares w) (d : District) (i : UnitId) :
    x.fitsShare shares d i = true ↔ FitsShareOf w x.units d i := by
  rw [State.fitsShare, FitsShareOf, Bool.or_eq_true, decide_eq_true_iff, decide_eq_true_iff, State.use_eq, entitlementOf,
    (hrows d).2.2]

theorem State.candidate_iff (hrows : RowsOf shares w) (d : District) (i : UnitId) :
    x.candidate shares d i = true ↔ x.CandidateFor w x.units d i := by
  simp only [State.candidate, State.CandidateFor, Bool.and_eq_true, State.ready_iff, State.fitsShare_iff hrows,
    State.fitsStation, State.withinBudget_iff, decide_eq_true_eq, State.committedPower_eq, State.freeCapacity_eq,
    (hrows d).1, and_assoc]
  exact and_congr_right fun _ => and_congr_right fun _ => and_left_comm

theorem State.candidates_isEmpty (hrows : RowsOf shares w) (d : District) :
    (x.candidates shares d).isEmpty = true ↔ ∀ i, ¬x.CandidateFor w x.units d i := by
  rw [State.candidates, List.isEmpty_iff, List.filter_eq_nil_iff]
  simp only [State.candidate_iff hrows]
  exact ⟨fun h i => h i (mem_unitIds i), fun h i _ => h i⟩

theorem State.starved_iff (hrows : RowsOf shares w) (d : District) :
    x.starved shares d = true ↔ x.StarvedAt w x.units d := by
  simp only [State.starved, State.StarvedAt, Bool.and_eq_true, decide_eq_true_eq, State.deficit_eq hrows,
    State.candidates_isEmpty hrows, List.any_eq_true, State.ready_iff, State.fitsShare_iff hrows, (hrows d).1, and_assoc,
    mem_unitIds, true_and]

theorem State.expired_iff (d : District) (i : UnitId) :
    ((x.units.get i).holdExpired && decide ((x.units.get i).commandedBay = d)) = true
      ↔ (x.units.get i).heldNoMore ∧ (x.units.get i).commandedBay = d := by
  simp [UnitRec.holdExpired]

theorem State.donor_iff (hrows : RowsOf shares w) (d : District) :
    (decide (0 < x.excess shares d) && !(x.expiredUnits d).isEmpty) = true ↔ DonorAt w x.units d := by
  have hexpired : (x.expiredUnits d).isEmpty = false ↔ ∃ i, (x.units.get i).heldNoMore ∧ (x.units.get i).commandedBay = d := by
    rw [← Bool.not_eq_true, State.expiredUnits, List.isEmpty_iff, List.filter_eq_nil_iff]
    simp only [State.expired_iff, Classical.not_forall, Classical.not_not, mem_unitIds, exists_true_left]
  rw [DonorAt, Bool.and_eq_true, decide_eq_true_iff, State.excess_eq hrows, Bool.not_eq_true', hexpired, Int.neg_pos]

/-- The members a test picks are those of a claim. -/
theorem IsLargest.congr {n : Nat} {p q : Fin n → Prop} {f g : Fin n → Int} {x : Fin n} (h : IsLargest p f x)
    (hpq : ∀ y, p y ↔ q y) (hfg : ∀ y, f y = g y) : IsLargest q g x := by
  rw [show q = p from funext fun y => propext (hpq y).symm, show g = f from funext fun y => (hfg y).symm]
  exact h

end Words

end Sys2Proof.Machine
end

section
/-! PROOFS about the stages of an evaluation that choose a unit: shed, rebalance, start and switch (sections 7.7 to 7.12). -/

namespace Sys2Proof.Machine

/-! ### Shed (R133 to R135) -/

section Shed
variable {x : State} {shares : Tri Share} {w : Tri Row} {key : UnitRec → Nat} {why : StopReason}

theorem State.commandedAt_iff (d : District) (i : UnitId) :
    ((x.units.get i).commanded && decide ((x.units.get i).commandedBay = d)) = true
      ↔ (x.units.get i).onDuty ∧ (x.units.get i).commandedBay = d := by
  rw [Bool.and_eq_true, UnitRec.commanded_iff, decide_eq_true_iff]

theorem State.hasCommanded_iff (d : District) :
    x.hasCommanded d = true ↔ ∃ j, (x.units.get j).onDuty ∧ (x.units.get j).commandedBay = d := by
  simp only [State.hasCommanded, List.any_eq_true, State.commandedAt_iff, mem_unitIds, true_and]

/-- The stop that a shed sends (R133). -/
theorem State.shedUnit_some (hrows : RowsOf shares w) {i : UnitId} (h : x.shedUnit shares key = some i) :
    (x.units.get i).onDuty
      ∧ x.ShedStop w why key x.units (x.units.set i ((x.units.get i).stoppedBy x.clock why)) := by
  unfold State.shedUnit at h
  split at h
  · cases h
  · next d hdistrict =>
    have hlargest := largest_isLargest unitIds_sorted mem_unitIds h
    have hworst := largest_isLargest districts_sorted mem_districts hdistrict
    refine ⟨((State.commandedAt_iff d i).1 hlargest.1).1, d, i, ?_, ?_, rfl⟩
    · exact hworst.congr State.hasCommanded_iff (State.excess_eq hrows)
    · exact hlargest.congr (State.commandedAt_iff d) fun _ => rfl

/-- A shed finds no unit only where none is in STARTING or RUNNING. -/
theorem State.shedUnit_none (h : x.shedUnit shares key = none) (i : UnitId) : ¬(x.units.get i).onDuty := by
  intro hduty
  have hhas : x.hasCommanded (x.units.get i).commandedBay = true := (State.hasCommanded_iff _).2 ⟨i, hduty, rfl⟩
  unfold State.shedUnit at h
  split at h
  · next hdistrict =>
    have hnone := (largest_eq_none mem_districts).1 hdistrict (x.units.get i).commandedBay
    rw [hhas] at hnone
    cases hnone
  · next d hdistrict =>
    obtain ⟨j, hj, hbay⟩ := (State.hasCommanded_iff d).1
      (largest_isLargest districts_sorted mem_districts hdistrict).1
    have hnone := (largest_eq_none mem_unitIds).1 h j
    rw [(State.commandedAt_iff d j).2 ⟨hj, hbay⟩] at hnone
    cases hnone

/-- How many units are in STARTING or RUNNING. -/
def dutyCount (us : Oct UnitRec) : Nat := totalOf us fun u => if u.onDuty then 1 else 0

theorem dutyCount_le (us : Oct UnitRec) : dutyCount us ≤ 8 := by
  have hone : ∀ i, (if (us.get i).onDuty then 1 else 0) ≤ 1 := fun i => by split <;> omega
  exact totalOf_le (vs := us) (g := fun _ => 1) hone

theorem dutyCount_stop {us : Oct UnitRec} {i : UnitId} (h : (us.get i).onDuty) (now : Second) (why : StopReason) :
    dutyCount (us.set i ((us.get i).stoppedBy now why)) + 1 = dutyCount us := by
  have hset := totalOf_set us i ((us.get i).stoppedBy now why) fun u => if u.onDuty then 1 else 0
  have hstopped : ¬((us.get i).stoppedBy now why).onDuty := by simp
  rw [if_pos h, if_neg hstopped] at hset
  exact hset

theorem not_onDuty_of_dutyCount {us : Oct UnitRec} (h : dutyCount us = 0) (i : UnitId) : ¬(us.get i).onDuty := by
  intro hduty
  have hless := dutyCount_stop hduty 0 .closure
  omega

/-- One half of the shed: at most one stop for each unit on duty. -/
theorem State.shedLoop_spec (hrows : RowsOf shares w) {exceeds : State → Bool} {exceeded : Oct UnitRec → Prop}
    {keyOf : State → UnitRec → Nat} (hexceeds : ∀ us, exceeds (x.withUnits us) = true ↔ exceeded us)
    (hkey : ∀ us, keyOf (x.withUnits us) = key) (n : Nat) (us : Oct UnitRec) (hcount : dutyCount us ≤ n)
    (h : (x.withUnits us).CreditsClosed) :
    ∃ vs, State.shedLoop shares why exceeds keyOf n (x.withUnits us) = x.withUnits vs ∧ (x.withUnits vs).CreditsClosed
      ∧ x.ShedRun w why key exceeded us vs := by
  induction n generalizing us with
  | zero => exact ⟨us, rfl, h, .done (.inr (not_onDuty_of_dutyCount (Nat.le_zero.1 hcount)))⟩
  | succ n ih =>
    unfold State.shedLoop
    by_cases hover : exceeds (x.withUnits us) = true
    · rw [if_pos hover, hkey us]
      cases hpick : (x.withUnits us).shedUnit shares key with
      | none => exact ⟨us, rfl, h, .done (.inr (State.shedUnit_none hpick))⟩
      | some i =>
        obtain ⟨hduty, hstop⟩ := State.shedUnit_some (why := why) hrows hpick
        have hless := dutyCount_stop hduty x.clock why
        obtain ⟨vs, hloop, hclosed, hrun⟩ := ih (us.set i ((us.get i).stoppedBy x.clock why)) (by
          change dutyCount (us.set i ((us.get i).stoppedBy x.clock why)) + 1 = dutyCount us at hless
          omega) (h.set (UnitRec.stoppedBy_owes ..))
        refine ⟨vs, ?_, hclosed, .stop ((hexceeds us).1 hover) hstop hrun⟩
        dsimp only
        rw [State.stopUnit_onDuty h hduty]
        exact hloop
    · rw [if_neg hover]
      exact ⟨us, rfl, h, .done (.inl ((not_congr (hexceeds us)).1 hover))⟩

/-- Stage 4. -/
theorem State.stageShed_spec (hrows : RowsOf shares w) (h : x.CreditsClosed) :
    ∃ vs, State.stageShed shares x = x.withUnits vs ∧ (x.withUnits vs).CreditsClosed ∧ x.ShedStage w x.units vs := by
  obtain ⟨us, hpower, hus, hpowerRun⟩ := State.shedLoop_spec (x := x) (why := .shedPower) (key := x.powerOf)
    (exceeded := fun us => ¬x.budgetAdmits (x.powerDrawn us - x.powerEnding us)) (exceeds := State.overBudget)
    (keyOf := State.ratedPower) hrows (fun _ => State.overBudget_iff) (fun _ => rfl) 8 x.units (dutyCount_le _) h
  obtain ⟨vs, hcap, hvs, hcapRun⟩ := State.shedLoop_spec (x := x) (why := .shedCap) (key := UnitRec.estimate)
    (exceeded := fun us => x.river.cap < dischargeOf us) (exceeds := State.overCap)
    (keyOf := fun _ u => u.estimate) hrows (fun _ => State.overCap_iff) (fun _ => rfl) 8 us (dutyCount_le _) hus
  refine ⟨vs, ?_, hvs, us, hpowerRun, hcapRun⟩
  rw [State.stageShed, show State.shedLoop shares .shedPower State.overBudget State.ratedPower 8 x = x.withUnits us from hpower]
  exact hcap

end Shed

/-! ### Rebalance (R138, R139) -/

section Rebalance
variable {x : State} {shares : Tri Share} {w : Tri Row} {hungry : Tri Bool}

theorem State.donor_some (hrows : RowsOf shares w) {d : District} (h : x.donor shares = some d) :
    IsLargest (DonorAt w x.units) (fun d => -deficitOf w x.units d) d :=
  (largest_isLargest districts_sorted mem_districts h).congr (State.donor_iff hrows) (State.excess_eq hrows)

theorem State.donor_none (hrows : RowsOf shares w) (h : x.donor shares = none) (d : District) : ¬DonorAt w x.units d := by
  rw [← State.donor_iff hrows, Bool.not_eq_true]
  exact (largest_eq_none mem_districts).1 h d

/-- Stage 6. -/
theorem State.stageRebalance_spec (hrows : RowsOf shares w) (hstarved : ∀ d, (w.get d).starved = x.starved shares d)
    (h : x.CreditsClosed) :
    ∃ vs, State.stageRebalance shares (Tri.ofFn (x.starved shares)) x = x.withUnits vs ∧ (x.withUnits vs).CreditsClosed
      ∧ x.RebalanceStage w x.units vs := by
  have hflags : ∀ d, (w.get d).starved = true ↔ x.StarvedAt w x.units d := fun d => by
    rw [hstarved, State.starved_iff hrows]
  have hany : districts.any (Tri.ofFn (x.starved shares)).get = true ↔ ∃ d, (w.get d).starved = true := by
    simp only [List.any_eq_true, Tri.get_ofFn, hstarved, mem_districts, true_and]
  unfold State.stageRebalance
  by_cases hhungry : districts.any (Tri.ofFn (x.starved shares)).get = true
  · rw [if_pos hhungry]
    cases hdonor : x.donor shares with
    | none =>
      refine ⟨x.units, rfl, h, hflags, fun _ => rfl, fun _ hsome => ?_⟩
      obtain ⟨d, hd⟩ := hsome
      exact absurd hd (State.donor_none hrows hdonor d)
    | some d =>
      have hlargest := State.donor_some hrows hdonor
      obtain ⟨-, j, hj⟩ := hlargest.1
      dsimp only
      cases hunit : largest (fun i => ((x.units.get i).estimate : Int)) (x.expiredUnits d) with
      | none =>
        have hno := (largest_eq_none mem_unitIds).1 hunit j
        rw [(State.expired_iff d j).2 hj] at hno
        cases hno
      | some i =>
        have hchosen := (largest_isLargest unitIds_sorted mem_unitIds hunit).congr (State.expired_iff d) fun _ => rfl
        have hduty : (x.units.get i).onDuty := .inr hchosen.1.1.1
        refine ⟨x.units.set i ((x.units.get i).stoppedBy x.clock .rebalance), State.stopUnit_onDuty h hduty,
          State.CreditsClosed.set (x := x) (us := x.units) h (UnitRec.stoppedBy_owes ..), hflags, fun hnone => ?_,
          fun _ _ => ⟨d, i, hlargest, hchosen, rfl⟩⟩
        rcases hnone with hnone | hnone
        · obtain ⟨e, he⟩ := hany.1 hhungry
          rw [hnone e] at he
          cases he
        · exact absurd hlargest.1 (hnone d)
  · rw [if_neg hhungry]
    exact ⟨x.units, rfl, h, hflags, fun _ => rfl, fun hsome => absurd (hany.2 hsome) hhungry⟩

end Rebalance

/-! ### Dispatch priority (R140) -/

section Priority
variable {x : State} {shares : Tri Share} {w : Tri Row}

/-- Rank of a district's urgency in the table. -/
def rankOf (w : Tri Row) (d : District) : Nat := urgencyRank (w.get d).urgency

theorem comesBefore_iff (us : Oct UnitRec) (a b : District) :
    ComesBefore w us a b ↔ rankOf w b < rankOf w a
      ∨ (rankOf w b = rankOf w a
          ∧ (deficitOf w us b < deficitOf w us a ∨ (deficitOf w us b = deficitOf w us a ∧ a.val < b.val))) := by
  unfold ComesBefore rankOf urgencyRank
  rfl

theorem State.before_iff (hrows : RowsOf shares w) (a b : District) :
    x.before shares a b = true ↔ rankOf w b < rankOf w a
      ∨ (rankOf w a = rankOf w b ∧ deficitOf w x.units b < deficitOf w x.units a) := by
  simp only [State.before, State.deficit_eq hrows, rankOf, (hrows _).2.1, Bool.or_eq_true, Bool.and_eq_true,
    decide_eq_true_eq]

/-- What the choice by urgency and deficit leaves is decided by the number. -/
theorem State.comesBefore_of_before (hrows : RowsOf shares w) {a b : District} (hba : x.before shares b a = false)
    (h : x.before shares a b = true ∨ a < b) : ComesBefore w x.units a b := by
  rw [← Bool.not_eq_true, State.before_iff hrows] at hba
  rw [State.before_iff hrows, Fin.lt_def] at h
  rw [comesBefore_iff]
  omega

theorem comesBefore_trans {us : Oct UnitRec} {a b c : District} (hab : ComesBefore w us a b) (hbc : ComesBefore w us b c) :
    ComesBefore w us a c := by
  rw [comesBefore_iff] at hab hbc ⊢
  omega

end Priority

end Sys2Proof.Machine
end

section
/-! PROOFS about the start slot and the switch (sections 7.11 and 7.12), and the evaluation as the eight stages it takes. -/

namespace Sys2Proof.Machine

/-! ### The start slot (R140) -/

section Start
variable {x : State} {shares : Tri Share} {w : Tri Row}

theorem State.slotOpen_iff : x.slotOpen = true ↔ x.SlotIsOpen := by
  have hspacing : x.spacing =
      match x.river.profile with
      | 0 => x.station.spacings.a0
      | 1 => x.station.spacings.a1
      | 2 => x.station.spacings.a2
      | 3 => 0 := by
    unfold State.spacing
    generalize x.river.profile = p
    match p with
    | 0 | 1 | 2 | 3 => rfl
  unfold State.slotOpen State.SlotIsOpen
  cases hlast : x.disp.lastStart with
  | none => simp
  | some t =>
    dsimp only
    rw [hspacing]
    refine ⟨fun h l hl => ?_, fun h => decide_eq_true (h t rfl)⟩
    cases hl
    exact of_decide_eq_true h

theorem State.before_asymm (hrows : RowsOf shares w) (a b : District) (h : x.before shares a b = true) :
    x.before shares b a = false := by
  rw [← Bool.not_eq_true, State.before_iff hrows]
  rw [State.before_iff hrows] at h
  omega

theorem State.before_weak (hrows : RowsOf shares w) (a b c : District) (h : x.before shares a c = true) :
    x.before shares a b = true ∨ x.before shares b c = true := by
  rw [State.before_iff hrows] at h ⊢
  rw [State.before_iff hrows]
  omega

/-- The district that wins the slot is the first in dispatch priority. -/
theorem State.slotWinner_some (hrows : RowsOf shares w) {d : District} (h : x.slotWinner shares = some d) :
    IsFirst w x.units (fun d => ∃ j, x.CandidateFor w x.units d j) d := by
  have hsome : ∀ e, e ∈ districts.filter (fun d => !(x.candidates shares d).isEmpty)
      ↔ ∃ j, x.CandidateFor w x.units e j := by
    intro e
    rw [List.mem_filter, Bool.not_eq_true', ← Bool.not_eq_true, State.candidates_isEmpty hrows]
    simp only [mem_districts, true_and, Classical.not_forall, Classical.not_not]
  obtain ⟨hd, hfirst⟩ := bestOf_spec (State.before_asymm hrows) (State.before_weak hrows) (districts_sorted.filter _) h
  refine ⟨(hsome d).1 hd, fun e he => ?_⟩
  obtain ⟨hnot, hbefore⟩ := hfirst e ((hsome e).2 he)
  by_cases heq : e = d
  · exact .inl heq
  · refine .inr (State.comesBefore_of_before hrows hnot (hbefore.imp_right fun hle => ?_))
    exact Nat.lt_of_le_of_ne hle fun hval => heq (Fin.ext hval.symm)

theorem State.slotWinner_none (hrows : RowsOf shares w) (h : x.slotWinner shares = none) (d : District) (i : UnitId) :
    ¬x.CandidateFor w x.units d i := by
  have hempty := List.filter_eq_nil_iff.1 (bestOf_eq_none.1 h) d (mem_districts d)
  simp only [Bool.not_eq_true', Bool.not_eq_false] at hempty
  exact (State.candidates_isEmpty hrows d).1 hempty i

/-- A candidate takes its start (R48). -/
theorem State.sendStart_candidate (hopen : ∀ d, (w.get d).demanding = true → x.river.closure = none) {d : District}
    {i : UnitId} (h : x.CandidateFor w x.units d i) :
    x.sendStart i =
      { x with
        units := x.units.set i ((x.units.get i).startedAt x.clock), disp := { x.disp with lastStart := some x.clock } } := by
  obtain ⟨hdemand, ⟨hidle, -, -, -, hroom, -⟩, -⟩ := h
  have hcan : (x.units.get i).canStart x.closed = true := by
    simp [UnitRec.canStart, hidle, State.closed, hopen d hdemand, hroom]
  unfold State.sendStart
  dsimp only
  rw [if_pos hcan, UnitRec.start_eq x.clock hcan]
  rfl

/-- Stage 7. -/
theorem State.stageStart_spec (hrows : RowsOf shares w)
    (hopen : ∀ d, (w.get d).demanding = true → x.river.closure = none) (h : x.CreditsClosed) :
    ∃ vs last, State.stageStart shares x = { x with units := vs, disp := { x.disp with lastStart := last } }
      ∧ (x.withUnits vs).CreditsClosed ∧ x.StartStage w x.units vs last := by
  unfold State.stageStart
  by_cases hslot : x.slotOpen = true
  · rw [if_pos hslot]
    cases hwinner : x.slotWinner shares with
    | none =>
      refine ⟨x.units, x.disp.lastStart, rfl, h, fun _ => ⟨rfl, rfl⟩, fun _ hsome => ?_⟩
      obtain ⟨d, i, hi⟩ := hsome
      exact absurd hi (State.slotWinner_none hrows hwinner d i)
    | some d =>
      have hfirst := State.slotWinner_some hrows hwinner
      obtain ⟨j, hj⟩ := hfirst.1
      dsimp only
      cases hbest : x.bestCandidate shares d with
      | none =>
        have hno := (largest_eq_none mem_unitIds).1 hbest j
        rw [(State.candidate_iff hrows d j).2 hj] at hno
        cases hno
      | some i =>
        have hchosen := (largest_isLargest unitIds_sorted mem_unitIds hbest).congr (State.candidate_iff hrows d) fun _ => rfl
        refine ⟨_, _, State.sendStart_candidate hopen hchosen.1, State.CreditsClosed.set (us := x.units) h
          (UnitRec.owes_standing (by simp)), fun hnone => ?_, fun _ _ => ⟨d, i, hfirst, hchosen, rfl, rfl⟩⟩
        rcases hnone with hshut | hnone
        · exact absurd (State.slotOpen_iff.1 hslot) hshut
        · exact absurd hj (hnone d j)
  · rw [if_neg hslot]
    exact ⟨x.units, x.disp.lastStart, rfl, h, fun _ => ⟨rfl, rfl⟩,
      fun hopen => absurd (State.slotOpen_iff.2 hopen) hslot⟩

end Start

/-! ### The switch (R142, R143) -/

section Switch
variable {x : State} {shares : Tri Share} {w : Tri Row}

theorem State.switchable_iff (hrows : RowsOf shares w) (d : District) (i : UnitId) :
    x.switchable shares d i = true ↔ x.SwitchableTo w x.units d i := by
  simp only [State.switchable, State.SwitchableTo, Bool.and_eq_true, Bool.or_eq_true, decide_eq_true_eq, Bool.not_eq_true',
    State.estimateAt_eq, UnitRec.configPending, Option.isSome_eq_false_iff, Option.isNone_iff_eq_none, (hrows _).1, and_assoc]
  rfl

theorem State.unitToSwitch_some (hrows : RowsOf shares w) {d : District} {i : UnitId}
    (h : x.unitToSwitch shares d = some i) :
    IsLargest (x.SwitchableTo w x.units d) (fun j => (x.flowOf (x.units.get j) d : Int)) i :=
  (largest_isLargest unitIds_sorted mem_unitIds h).congr (State.switchable_iff hrows d) fun _ => by
    rw [State.estimateAt_eq]

theorem State.unitToSwitch_none (hrows : RowsOf shares w) {d : District} (h : x.unitToSwitch shares d = none) (i : UnitId) :
    ¬x.SwitchableTo w x.units d i := by
  rw [← State.switchable_iff hrows, Bool.not_eq_true]
  exact (largest_eq_none mem_unitIds).1 h i

/-- The switch goes to the first bay of the list that yields a unit. -/
theorem State.switchFirst_cases (hrows : RowsOf shares w) (l : List District) :
    (x.switchFirst shares l = x ∧ ∀ d ∈ l, ∀ i, ¬x.SwitchableTo w x.units d i)
    ∨ ∃ ahead d behind i, l = ahead ++ d :: behind ∧ (∀ e ∈ ahead, ∀ i, ¬x.SwitchableTo w x.units e i)
        ∧ x.unitToSwitch shares d = some i ∧ x.switchFirst shares l = x.applyUnit i ((x.units.get i).switch x.clock d) := by
  induction l with
  | nil => exact .inl ⟨rfl, by simp⟩
  | cons d l ih =>
    unfold State.switchFirst
    cases hunit : x.unitToSwitch shares d with
    | some i => exact .inr ⟨[], d, l, i, rfl, by simp, hunit, rfl⟩
    | none =>
      have hd := State.unitToSwitch_none hrows hunit
      rcases ih with ⟨hsame, hnone⟩ | ⟨ahead, e, behind, i, rfl, hahead, hi, hswitch⟩
      · exact .inl ⟨hsame, List.forall_mem_cons.2 ⟨hd, hnone⟩⟩
      · exact .inr ⟨d :: ahead, e, behind, i, rfl, List.forall_mem_cons.2 ⟨hd, hahead⟩, hi, hswitch⟩

theorem pairwise_insertBy (hrows : RowsOf shares w) {a : District} {l : List District}
    (hl : l.Pairwise (ComesBefore w x.units)) (ha : ∀ y ∈ l, a < y) :
    (insertBy (x.before shares) a l).Pairwise (ComesBefore w x.units) := by
  induction l with
  | nil => exact List.pairwise_singleton ..
  | cons y ys ih =>
    obtain ⟨hy, hys⟩ := List.pairwise_cons.1 hl
    obtain ⟨hay, hays⟩ := List.forall_mem_cons.1 ha
    unfold insertBy
    by_cases hbefore : x.before shares y a = true
    · rw [if_pos hbefore]
      refine List.pairwise_cons.2 ⟨fun z hz => ?_, ih hys hays⟩
      rcases mem_insertBy.1 hz with rfl | hz
      · exact State.comesBefore_of_before hrows (State.before_asymm hrows _ _ hbefore) (.inl hbefore)
      · exact hy z hz
    · rw [if_neg hbefore]
      have hfirst : ComesBefore w x.units a y :=
        State.comesBefore_of_before hrows (Bool.eq_false_iff.2 hbefore) (.inr hay)
      refine List.pairwise_cons.2 ⟨fun z hz => ?_, hl⟩
      rcases List.mem_cons.1 hz with rfl | hz
      · exact hfirst
      · exact comesBefore_trans hfirst (hy z hz)

/-- A rising list sorted by urgency and deficit stands in dispatch priority. -/
theorem pairwise_sortBy (hrows : RowsOf shares w) {l : List District} (hl : l.Pairwise (· < ·)) :
    (sortBy (x.before shares) l).Pairwise (ComesBefore w x.units) := by
  induction l with
  | nil => exact List.Pairwise.nil
  | cons a l ih =>
    obtain ⟨ha, hl⟩ := List.pairwise_cons.1 hl
    exact pairwise_insertBy hrows (ih hl) fun y hy => ha y (mem_sortBy.1 hy)

/-- A unit that may be switched takes its switch, and sends no credit (R57). -/
theorem State.applyUnit_switch {d : District} {i : UnitId} (h : x.SwitchableTo w x.units d i) :
    x.applyUnit i ((x.units.get i).switch x.clock d) = x.withUnits (x.units.set i ((x.units.get i).switchedTo d)) := by
  obtain ⟨hstate, -, hreach, -, hpending, -⟩ := h
  rw [UnitRec.switch_eq x.clock hstate hreach hpending]
  rfl

theorem UnitRec.switchedTo_state (u : UnitRec) (b : District) :
    (u.switchedTo b).state = .switching ∨ (u.switchedTo b).state = .resting ∨ (u.switchedTo b).state = .idle := by
  unfold UnitRec.switchedTo
  dsimp only
  split
  · exact .inl rfl
  · split
    · exact .inr (.inl rfl)
    · exact .inr (.inr rfl)

/-- Stage 8. -/
theorem State.stageSwitch_spec (hrows : RowsOf shares w) {served : Tri Bool} {lacks : District → Prop}
    (hserved : ∀ d, served.get d = false ↔ lacks d) :
    let wants (d : District) : Prop :=
      (w.get d).demanding = true ∧ 0 < deficitOf w x.units d ∧ lacks d ∧ ∃ i, x.SwitchableTo w x.units d i
    ∃ ws, State.stageSwitch shares served x = x.withUnits ws
      ∧ ((∀ d, ¬wants d) → ws = x.units)
      ∧ ((∃ d, wants d) →
          ∃ (d : District) (i : UnitId),
            IsFirst w x.units wants d
            ∧ IsLargest (x.SwitchableTo w x.units d) (fun j => (x.flowOf (x.units.get j) d : Int)) i
            ∧ ws = x.units.set i ((x.units.get i).switchedTo d)) := by
  intro wants
  have hconsidered : ∀ d, d ∈ x.considered shares served
      ↔ (w.get d).demanding = true ∧ 0 < deficitOf w x.units d ∧ lacks d := by
    intro d
    rw [State.considered, mem_sortBy, List.mem_filter]
    simp only [mem_districts, true_and, Bool.and_eq_true, decide_eq_true_eq, State.deficit_eq hrows, (hrows d).1,
      ← hserved d, Bool.not_eq_true', and_assoc]
  have hsorted : (x.considered shares served).Pairwise (ComesBefore w x.units) :=
    pairwise_sortBy hrows (districts_sorted.filter _)
  unfold State.stageSwitch
  rcases State.switchFirst_cases (x := x) hrows (x.considered shares served) with
    ⟨hsame, hnone⟩ | ⟨ahead, d, behind, i, hlist, hahead, hunit, hswitch⟩
  · refine ⟨x.units, hsame, fun _ => rfl, fun hsome => ?_⟩
    obtain ⟨d, hdemand, hdeficit, hlacks, i, hi⟩ := hsome
    exact absurd hi (hnone d ((hconsidered d).2 ⟨hdemand, hdeficit, hlacks⟩) i)
  · have hchosen := State.unitToSwitch_some hrows hunit
    obtain ⟨hdemand, hdeficit, hlacks⟩ := (hconsidered d).1 (by rw [hlist]; simp)
    have hwants : wants d := ⟨hdemand, hdeficit, hlacks, i, hchosen.1⟩
    refine ⟨_, hswitch.trans (State.applyUnit_switch hchosen.1), fun hnone => absurd hwants (hnone d),
      fun _ => ⟨d, i, ⟨hwants, fun e he => ?_⟩, hchosen, rfl⟩⟩
    obtain ⟨hedemand, hedeficit, helacks, j, hj⟩ := he
    have hmem : e ∈ ahead ++ d :: behind := hlist ▸ (hconsidered e).2 ⟨hedemand, hedeficit, helacks⟩
    rw [hlist] at hsorted
    rcases List.mem_append.1 hmem with hmem | hmem
    · exact absurd hj (hahead e hmem j)
    · rcases List.mem_cons.1 hmem with rfl | hmem
      · exact .inl rfl
      · exact .inr ((List.pairwise_cons.1 (List.pairwise_append.1 hsorted).2.1).1 e hmem)

end Switch

end Sys2Proof.Machine
end

section
/-! PROOFS about the evaluation as a whole: stage 1 with its credits, and the eight stages in turn (R125). -/

namespace Sys2Proof.Machine

/-! ### Stage 1 (R33, R128) -/

section Estimates
variable {s : State}

theorem State.Serves.estimateOf {x : State} (h : s.Serves x) (u : UnitRec) : x.estimateOf u = s.estimateOf u := by
  have hsame := congrArg (fun t : State => t.estimateOf u) h.same
  exact hsame

/-- What the estimates stage does at a unit. -/
def State.estimateEvent (s : State) (i : UnitId) : UnitEffect :=
  (s.units.get i).takeEstimate s.clock (s.estimateOf (s.units.get i))

theorem State.stageEstimates_eq (s : State) : s.stageEstimates = s.applyEach s.estimateEvent unitIds := by
  have hfold := State.foldl_applyUnit_eq (s := s)
    (f := fun t i => (t.units.get i).takeEstimate t.clock (t.estimateOf (t.units.get i)))
    (fun x i hx hi => by simp only [hi, hx.clock, hx.estimateOf]) unitIds_nodup
  rw [State.stageEstimates]
  simp only [State.newEstimate_eq]
  exact hfold

theorem quietEvents_estimate (s : State) : QuietEvents s.estimateEvent := by
  intro i
  rw [State.estimateEvent, UnitRec.takeEstimate_eq]
  exact ⟨rfl, rfl⟩

theorem State.estimateEvent_credits (s : State) (i : UnitId) :
    (s.estimateEvent i).Credits (s.units.get i).commandedBay ((s.units.get i).owes s.clock) := by
  rw [State.estimateEvent, UnitRec.takeEstimate_eq]
  rfl

theorem State.stageEstimates_given (s : State) : s.EstimatesGiven s.stageEstimates.units := by
  intro i
  rw [State.stageEstimates_eq, State.applyEach_units, if_pos (mem_unitIds i), State.estimateEvent, UnitRec.takeEstimate_eq]

theorem State.stageEstimates_serves (s : State) : s.Serves s.stageEstimates := State.Serves.refl.stageEstimates

theorem State.stageEstimates_disp (s : State) : s.stageEstimates.disp = s.disp := by
  rw [State.stageEstimates_eq, State.applyEach_disp (quietEvents_estimate s)]

/-- Stage 1 changes unit records, queues and notice records alone. -/
theorem State.stageEstimates_same (s : State) :
    { s.stageEstimates with units := s.units, queues := s.queues, notices := s.notices } = s := by
  have hput := congrArg (fun x : Dispatcher =>
    { s.stageEstimates with units := s.units, queues := s.queues, notices := s.notices, disp := x }) s.stageEstimates_disp
  exact hput.trans s.stageEstimates_serves.same

/-- What is said of a part without a look at its units, queues and notice records holds of a part that agrees in the rest. -/
theorem State.of_agree {x : State} {P : State → Prop}
    (hsame : { x with units := s.units, queues := s.queues, notices := s.notices } = s)
    (h : P { x with units := s.units, queues := s.queues, notices := s.notices }) : P s :=
  hsame ▸ h

/-- After stage 1 no unit owes a credit (R149). -/
theorem State.stageEstimates_closed (s : State) : s.stageEstimates.CreditsClosed := by
  intro i
  rw [s.stageEstimates_given i, s.stageEstimates_serves.clock]
  unfold UnitRec.owes
  dsimp only
  split
  · next hrun => simp
  · rfl

end Estimates

/-! ### The eight stages (R125) -/

section Stages
variable {s : State}

/-- Demanding, urgency and entitlement of a district in the evaluation taken at `s` (R130, R131). -/
def State.evalShares (s : State) : Tri Share := s.shares s.demands

/-- A demanding district: closure is not in force and its LOW_SUCTION is clear (R130). -/
theorem State.evalShares_demanding {d : District} (h : (s.evalShares.get d).demanding = true) :
    s.river.closure = none ∧ (s.bays.get d).lowSuction = false := by
  simp only [State.evalShares, State.shares, State.demands, Tri.get_ofFn, Share.demanding, State.demand] at h
  split at h
  · cases h
  · next hcalls =>
    simpa [State.closed] using hcalls

theorem State.Serves.shares {x : State} (h : s.Serves x) (demands : Tri (Option Urgency)) :
    x.shares demands = s.shares demands := by
  have hsame := congrArg (fun t : State => t.shares demands) h.same
  exact hsame

theorem State.withUnits_shares (x : State) (us : Oct UnitRec) (demands : Tri (Option Urgency)) :
    (x.withUnits us).shares demands = x.shares demands := rfl

/-- The table carries the shares, and the starved flags as stage 6 found them (R145). -/
theorem State.stagesAfterShares_rows (shares : Tri Share) (x : State) :
    let w := (State.stagesAfterShares shares x).disp.table
    RowsOf shares w
      ∧ ∀ d, (w.get d).starved = (State.stageDemand shares (State.stageShed shares x)).starved shares d := by
  intro w
  have hrow : ∀ d, ∃ y : State, w.get d =
      y.tableRow shares (Tri.ofFn ((State.stageDemand shares (State.stageShed shares x)).starved shares)) d :=
    fun d => ⟨_, Tri.get_ofFn ..⟩
  refine ⟨fun d => ?_, fun d => ?_⟩
  · obtain ⟨y, hy⟩ := hrow d
    rw [hy]
    exact ⟨rfl, rfl, rfl⟩
  · obtain ⟨y, hy⟩ := hrow d
    rw [hy]
    exact Tri.get_ofFn ..

/-- Stages 6 to 8 one after another, and what is kept at the end. -/
theorem State.stagesAfterShares_eq {shares : Tri Share} {x s5 s6 s7 s8 : State}
    (h5 : State.stageDemand shares (State.stageShed shares x) = s5)
    (h6 : State.stageRebalance shares (Tri.ofFn (s5.starved shares)) s5 = s6) (h7 : State.stageStart shares s6 = s7)
    (h8 : State.stageSwitch shares (Tri.ofFn fun d => !(s6.candidates shares d).isEmpty) s7 = s8) :
    State.stagesAfterShares shares x = State.record shares (Tri.ofFn (s5.starved shares)) s8 := by
  subst h5 h6 h7 h8
  rfl

/-- A shed looks at no unit record, queue or notice record but those it is told of. -/
theorem State.ShedRun.keep {x : State} {w : Tri Row} {why : StopReason} {key : UnitRec → Nat} {exceeded : Oct UnitRec → Prop}
    {us vs : Oct UnitRec} (h : x.ShedRun w why key exceeded us vs) (units : Oct UnitRec) (queues : Tri OrderQueue)
    (notices : Ports NoticePort) :
    State.ShedRun { x with units := units, queues := queues, notices := notices } w why key exceeded us vs := by
  induction h with
  | done hend => exact .done hend
  | stop hover hstop _ ih => exact .stop hover hstop ih

theorem State.ShedStage.keep {x : State} {w : Tri Row} {us ws : Oct UnitRec} (h : x.ShedStage w us ws) (units : Oct UnitRec)
    (queues : Tri OrderQueue) (notices : Ports NoticePort) :
    State.ShedStage { x with units := units, queues := queues, notices := notices } w us ws := by
  obtain ⟨vs, hpower, hcap⟩ := h
  exact ⟨vs, hpower.keep units queues notices, hcap.keep units queues notices⟩

/-- The closure that a share looked at is in force no more where a district demands. -/
def State.OpenFor (e : State) (shares : Tri Share) : Prop := ∀ d, (shares.get d).demanding = true → e.river.closure = none

/-- Stages 4 to 8, said of the units that stage 2 leaves. -/
theorem State.stagesAfterShares_spec {e : State} {u2 : Oct UnitRec} {shares : Tri Share} {w : Tri Row}
    (hw : w = (State.stagesAfterShares shares (e.withUnits u2)).disp.table) (h2 : (e.withUnits u2).CreditsClosed)
    (hopen : e.OpenFor shares) :
    ∃ u4 u5 u6 u7 u8 last hungry,
      State.stagesAfterShares shares (e.withUnits u2)
          = State.record shares hungry { e with units := u8, disp := { e.disp with lastStart := last } }
      ∧ RowsOf shares w ∧ e.ShedStage w u2 u4 ∧ e.DemandStops w u4 u5 ∧ e.RebalanceStage w u5 u6
      ∧ e.StartStage w u6 u7 last ∧ e.SwitchStage w u6 u7 u8 := by
  obtain ⟨hrows, hstarved⟩ := State.stagesAfterShares_rows shares (e.withUnits u2)
  rw [← hw] at hrows hstarved
  have hopenAt : ∀ d, (w.get d).demanding = true → e.river.closure = none := fun d hd => hopen d ((hrows d).1 ▸ hd)
  obtain ⟨u4, hshed, h4, hshedStage⟩ := State.stageShed_spec hrows h2
  obtain ⟨u5, hdemand, h5, hdemandStops⟩ := State.stageDemand_spec hrows h4
  have hs5 : State.stageDemand shares (State.stageShed shares (e.withUnits u2)) = e.withUnits u5 := hshed ▸ hdemand
  rw [hs5] at hstarved
  obtain ⟨u6, hrebalance, h6, hrebalanceStage⟩ := State.stageRebalance_spec (x := e.withUnits u5) hrows hstarved h5
  obtain ⟨u7, last, hstart, -, hstartStage⟩ := State.stageStart_spec (x := e.withUnits u6) hrows hopenAt h6
  have hserved : ∀ d, (Tri.ofFn fun d => !((e.withUnits u6).candidates shares d).isEmpty).get d = false
      ↔ ∀ i, ¬e.CandidateFor w u6 d i := by
    intro d
    rw [Tri.get_ofFn, Bool.not_eq_false']
    exact State.candidates_isEmpty (x := e.withUnits u6) hrows d
  obtain ⟨u8, hswitch, hswitchStage⟩ := State.stageSwitch_spec
    (x := { e with units := u7, disp := { e.disp with lastStart := last } }) hrows hserved
  exact ⟨u4, u5, u6, u7, u8, last, _, State.stagesAfterShares_eq hs5 hrebalance hstart hswitch, hrows,
    hshedStage.keep e.units e.queues e.notices, hdemandStops, hrebalanceStage, hstartStage, hswitchStage⟩

/-- The eight stages of an evaluation, and what it keeps at its end. -/
theorem State.evaluate_spec (s : State) :
    s.StagesTaken s.evaluate ∧ RowsOf s.evalShares s.evaluate.disp.table
      ∧ ∃ us last hungry, s.evaluate =
          State.record s.evalShares hungry
            { s.stageEstimates with units := us, disp := { s.disp with lastStart := last } } := by
  obtain ⟨u2, hprotected, h2, hprotective⟩ := State.stageProtective_spec s.stageEstimates_closed
  have hshares : (s.stageEstimates.withUnits u2).shares s.demands = s.evalShares :=
    (s.stageEstimates.withUnits_shares u2 s.demands).trans (s.stageEstimates_serves.shares s.demands)
  have hevaluate : s.evaluate = State.stagesAfterShares s.evalShares (s.stageEstimates.withUnits u2) := by
    rw [State.evaluate, hprotected, hshares]
  have hopen : s.stageEstimates.OpenFor s.evalShares := fun d hd => by
    rw [s.stageEstimates_serves.river]
    exact (State.evalShares_demanding hd).1
  obtain ⟨u4, u5, u6, u7, u8, last, hungry, hend, hrows, hshed, hdemand, hrebalance, hstart, hswitch⟩ :=
    State.stagesAfterShares_spec (congrArg (fun t : State => t.disp.table) hevaluate) h2 hopen
  rw [← hevaluate, s.stageEstimates_disp] at hend
  have hunits : s.evaluate.units = u8 := congrArg State.units hend
  have hlast : s.evaluate.disp.lastStart = last := congrArg (fun t : State => t.disp.lastStart) hend
  have hgiven := s.stageEstimates_given
  have hsame := s.stageEstimates_same
  generalize s.stageEstimates = e at *
  refine ⟨⟨e.units, u2, u4, u5, u6, u7, hgiven, ?_, ?_, ?_, ?_, ?_, ?_⟩, hrows, u8, last,
    hungry, hend⟩
  · exact State.of_agree hsame (P := fun s => s.ProtectiveStops _ u2) hprotective
  · exact State.of_agree hsame (P := fun x => x.ShedStage s.evaluate.disp.table u2 u4)
      (hshed.keep s.units s.queues s.notices)
  · exact State.of_agree hsame (P := fun x => x.DemandStops s.evaluate.disp.table u4 u5) hdemand
  · exact State.of_agree hsame (P := fun x => x.RebalanceStage s.evaluate.disp.table u5 u6) hrebalance
  · rw [hlast]
    exact State.of_agree hsame (P := fun x => x.StartStage s.evaluate.disp.table u6 u7 last) hstart
  · rw [hunits]
    exact State.of_agree hsame (P := fun x => x.SwitchStage s.evaluate.disp.table u6 u7 u8) hswitch

end Stages

end Sys2Proof.Machine
end

section
/-! PROOFS about the unit records that the stages of an evaluation leave: stops alone up to stage 6, then one start and one
switch at most; estimates and credit marks stay as stage 1 set them. -/

namespace Sys2Proof.Machine

/-! ### Stops along the stages -/

section StopsFrom
variable {now : Second} {u v w : UnitRec} {us vs ws : Oct UnitRec}

/-- A record that a stage of stops leaves: as it was, or stopped; a held unit is not stopped for NO_DEMAND or REBALANCE. -/
def UnitRec.StopsTo (now : Second) (u v : UnitRec) : Prop :=
  v = u ∨ ∃ why, u.onDuty ∧ ((why = .noDemand ∨ why = .rebalance) → u.state = .starting ∨ u.heldNoMore)
    ∧ v = u.stoppedBy now why

/-- The records that stages of stops leave. -/
def StopsFrom (now : Second) (us vs : Oct UnitRec) : Prop := ∀ i, UnitRec.StopsTo now (us.get i) (vs.get i)

theorem StopsFrom.refl : StopsFrom now us us := fun _ => .inl rfl

theorem UnitRec.StopsTo.trans (h : UnitRec.StopsTo now u v) (h' : UnitRec.StopsTo now v w) : UnitRec.StopsTo now u w := by
  rcases h' with rfl | ⟨why', hduty', hheld', rfl⟩
  · exact h
  · rcases h with rfl | ⟨why, -, -, rfl⟩
    · exact .inr ⟨why', hduty', hheld', rfl⟩
    · exact absurd hduty' (by simp)

theorem StopsFrom.trans (h : StopsFrom now us vs) (h' : StopsFrom now vs ws) : StopsFrom now us ws :=
  fun i => (h i).trans (h' i)

theorem StopsFrom.set {i : UnitId} {why : StopReason} (hduty : (us.get i).onDuty)
    (hheld : (why = .noDemand ∨ why = .rebalance) → (us.get i).state = .starting ∨ (us.get i).heldNoMore) :
    StopsFrom now us (us.set i ((us.get i).stoppedBy now why)) := by
  intro j
  rw [Oct.get_set]
  split
  · next hj =>
    subst hj
    exact .inr ⟨why, hduty, hheld, rfl⟩
  · exact .inl rfl

variable {s : State} {t : Tri Row}

theorem State.ProtectiveStops.stops (h : s.ProtectiveStops us vs) : StopsFrom s.clock us vs := by
  intro i
  have hi := h i
  dsimp only at hi
  rw [hi]
  split
  · next hlow => exact .inr ⟨.head, hlow.1, by simp, rfl⟩
  · split
    · next hdry => exact .inr ⟨.suction, hdry.1, by simp, rfl⟩
    · exact .inl rfl

theorem State.ShedRun.stops {why : StopReason} {key : UnitRec → Nat} {exceeded : Oct UnitRec → Prop}
    (hwhy : why ≠ .noDemand ∧ why ≠ .rebalance) (h : s.ShedRun t why key exceeded us vs) : StopsFrom s.clock us vs := by
  induction h with
  | done => exact .refl
  | stop _ hstop _ ih =>
    obtain ⟨d, i, -, hunit, rfl⟩ := hstop
    exact StopsFrom.trans (.set hunit.1.1 fun h => (h.elim hwhy.1 hwhy.2).elim) ih

theorem State.ShedStage.stops (h : s.ShedStage t us ws) : StopsFrom s.clock us ws := by
  obtain ⟨vs, hpower, hcap⟩ := h
  exact (hpower.stops (by simp)).trans (hcap.stops (by simp))

theorem State.DemandStops.stops (h : s.DemandStops t us vs) : StopsFrom s.clock us vs := by
  intro i
  have hi := h i
  dsimp only at hi
  rw [hi]
  split
  · next hstops => exact .inr ⟨.noDemand, hstops.2.imp_right And.left, fun _ => hstops.2, rfl⟩
  · exact .inl rfl

theorem State.RebalanceStage.stops (h : s.RebalanceStage t us vs) : StopsFrom s.clock us vs := by
  obtain ⟨-, hquiet, hstop⟩ := h
  by_cases hboth : (∃ d, (t.get d).starved = true) ∧ ∃ d, DonorAt t us d
  · obtain ⟨d, i, -, hunit, rfl⟩ := hstop hboth.1 hboth.2
    exact .set (.inr hunit.1.1.1) fun _ => .inr hunit.1.1
  · have hsame : vs = us := hquiet <| by
      rw [Classical.not_and_iff_not_or_not] at hboth
      exact hboth.imp (fun h d => Bool.eq_false_iff.2 fun hd => h ⟨d, hd⟩) fun h d hd => h ⟨d, hd⟩
    exact hsame ▸ .refl

/-- Stage 7 leaves the records alone or starts one candidate of a demanding district. -/
theorem State.StartStage.cases {last : Option Second} (h : s.StartStage t us vs last) :
    (vs = us ∧ last = s.disp.lastStart)
    ∨ ∃ d i, s.SlotIsOpen ∧ s.CandidateFor t us d i ∧ vs = us.set i ((us.get i).startedAt s.clock) ∧ last = some s.clock := by
  obtain ⟨hquiet, hstart⟩ := h
  by_cases hboth : s.SlotIsOpen ∧ ∃ d i, s.CandidateFor t us d i
  · obtain ⟨d, i, -, hunit, hvs, hlast⟩ := hstart hboth.1 hboth.2
    exact .inr ⟨d, i, hboth.1, hunit.1, hvs, hlast⟩
  · refine .inl (hquiet ?_)
    rw [Classical.not_and_iff_not_or_not] at hboth
    exact hboth.imp_right fun h d i hi => h ⟨d, i, hi⟩

/-- Stage 8 leaves the records alone or switches one unit. -/
theorem State.SwitchStage.cases (h : s.SwitchStage t us vs ws) :
    ws = vs ∨ ∃ d i, s.SwitchableTo t vs d i ∧ ws = vs.set i ((vs.get i).switchedTo d) := by
  obtain ⟨hquiet, hswitch⟩ := h
  by_cases hserved : ∃ d, (t.get d).demanding = true ∧ 0 < deficitOf t vs d ∧ (∀ i, ¬s.CandidateFor t us d i)
      ∧ ∃ i, s.SwitchableTo t vs d i
  · obtain ⟨d, i, -, hunit, hws⟩ := hswitch hserved
    exact .inr ⟨d, i, hunit.1, hws⟩
  · exact .inl (hquiet fun d hd => hserved ⟨d, hd⟩)

end StopsFrom

/-! ### Estimates and credit marks at the end of an evaluation (R31, R149) -/

section Estimates
variable {us vs : Oct UnitRec} {s : State}

/-- The same current estimates and credit marks. -/
def SameEstimates (us vs : Oct UnitRec) : Prop :=
  ∀ i, (vs.get i).estimate = (us.get i).estimate ∧ (vs.get i).creditMark = (us.get i).creditMark

theorem SameEstimates.trans {ws : Oct UnitRec} (h : SameEstimates us vs) (h' : SameEstimates vs ws) : SameEstimates us ws :=
  fun i => ⟨(h' i).1.trans (h i).1, (h' i).2.trans (h i).2⟩

theorem SameEstimates.set {i : UnitId} {v : UnitRec}
    (h : v.estimate = (us.get i).estimate ∧ v.creditMark = (us.get i).creditMark) : SameEstimates us (us.set i v) := by
  intro j
  rw [Oct.get_set]
  split
  · next hj => exact hj ▸ h
  · exact ⟨rfl, rfl⟩

/-- Stops keep the credit mark of a unit whose mark is now. -/
theorem StopsFrom.sameEstimates {now : Second} (h : StopsFrom now us vs)
    (hmark : ∀ i, (us.get i).state = .running → (us.get i).creditMark = now) : SameEstimates us vs := by
  intro i
  rcases h i with heq | ⟨why, -, -, heq⟩
  · rw [heq]
    exact ⟨rfl, rfl⟩
  · rw [heq]
    refine ⟨rfl, ?_⟩
    unfold UnitRec.stoppedBy
    dsimp only
    split
    · next hrun => exact (hmark i hrun).symm
    · rfl

theorem State.StartStage.sameEstimates {w : Tri Row} {last : Option Second} (h : s.StartStage w us vs last) :
    SameEstimates us vs := by
  rcases h.cases with ⟨rfl, -⟩ | ⟨d, i, -, -, rfl, -⟩
  · exact fun _ => ⟨rfl, rfl⟩
  · exact .set ⟨rfl, rfl⟩

theorem UnitRec.switchedTo_estimate (u : UnitRec) (b : District) :
    (u.switchedTo b).estimate = u.estimate ∧ (u.switchedTo b).creditMark = u.creditMark := by
  unfold UnitRec.switchedTo
  dsimp only
  split
  · exact ⟨rfl, rfl⟩
  · split <;> exact ⟨rfl, rfl⟩

theorem State.SwitchStage.sameEstimates {w : Tri Row} {ts : Oct UnitRec} (h : s.SwitchStage w ts us vs) :
    SameEstimates us vs := by
  rcases h.cases with rfl | ⟨d, i, -, rfl⟩
  · exact fun _ => ⟨rfl, rfl⟩
  · exact .set (UnitRec.switchedTo_estimate _ d)

/-- The stages after the first leave every estimate and credit mark as stage 1 set it. -/
theorem State.evaluate_estimates (s : State) (i : UnitId) :
    (s.evaluate.units.get i).estimate = s.estimateOf (s.units.get i)
      ∧ (s.evaluate.units.get i).creditMark =
          if (s.units.get i).state = .running then s.clock else (s.units.get i).creditMark := by
  obtain ⟨u1, u2, u4, u5, u6, u7, hgiven, hprotective, hshed, hdemand, hrebalance, hstart, hswitch⟩ := s.evaluate_spec.1
  have hmark : ∀ j, (u1.get j).state = .running → (u1.get j).creditMark = s.clock := by
    intro j
    rw [hgiven j]
    exact fun hrun => if_pos hrun
  have hstops : StopsFrom s.clock u1 u6 :=
    ((hprotective.stops.trans hshed.stops).trans hdemand.stops).trans hrebalance.stops
  have hsame := ((hstops.sameEstimates hmark).trans hstart.sameEstimates).trans hswitch.sameEstimates
  rw [(hsame i).1, (hsame i).2, hgiven i]
  exact ⟨rfl, rfl⟩

end Estimates

end Sys2Proof.Machine
end

section
/-! PROOFS about what an evaluation keeps at its end (R124, R145) and the credits it sends: settles O49 and O50. -/

namespace Sys2Proof.Machine

/-! ### The part at the end of an evaluation -/

section End
variable {s : State}

/-- Beyond its credits and its unit records an evaluation changes the Dispatcher's own record alone. -/
theorem State.evaluate_frame (s : State) :
    s.evaluate.queues = s.stageEstimates.queues ∧ s.evaluate.notices = s.stageEstimates.notices
      ∧ { s.evaluate with units := s.units, queues := s.queues, disp := s.disp, notices := s.notices } = s := by
  obtain ⟨-, -, us, last, hungry, hend⟩ := s.evaluate_spec
  have hsame := s.stageEstimates_same
  generalize s.stageEstimates = e at *
  rw [hend]
  exact ⟨rfl, rfl, congrArg (fun x : State => { x with disp := s.disp }) hsame⟩

/-- What the Dispatcher keeps of the event. -/
theorem State.evaluate_kept (s : State) :
    s.evaluate.disp.request = false ∧ s.evaluate.disp.evalDue = false ∧ s.evaluate.disp.lastEval = some s.clock
      ∧ s.evaluate.disp.capUsed = s.river.cap ∧ s.evaluate.disp.budgetUsed = s.budget := by
  obtain ⟨-, -, us, last, hungry, hend⟩ := s.evaluate_spec
  have hserves := s.stageEstimates_serves
  generalize s.stageEstimates = e at *
  rw [hend]
  refine ⟨rfl, rfl, congrArg some hserves.clock, congrArg River.cap hserves.river, ?_⟩
  rw [State.budget, ← hserves.station, ← hserves.river]
  rfl

/-- The sums and the table are those of the unit records at the end. -/
theorem State.evaluate_sums (s : State) :
    s.evaluate.disp.sums = (s.withUnits s.evaluate.units).stationSums
      ∧ ∃ hungry, ∀ d, s.evaluate.disp.table.get d = (s.withUnits s.evaluate.units).tableRow s.evalShares hungry d := by
  obtain ⟨-, -, us, last, hungry, hend⟩ := s.evaluate_spec
  have hsame := s.stageEstimates_same
  generalize s.stageEstimates = e at *
  have hsums := congrArg (fun x : State => (x.withUnits us).stationSums) hsame
  rw [hend]
  exact ⟨hsums, hungry, fun d => Tri.get_ofFn ..⟩

theorem State.budget_eq (s : State) : s.budget =
    match s.river.profile with
    | 0 => some s.station.budgets.a0
    | 1 => some s.station.budgets.a1
    | 2 => some s.station.budgets.a2
    | 3 => none := by
  unfold State.budget
  generalize s.river.profile = p
  match p with
  | 0 | 1 | 2 | 3 => rfl

theorem State.commandedDischarge_eq (s : State) :
    s.commandedDischarge = totalOf s.units fun u => if u.onDuty then u.estimate else 0 :=
  congrArg List.sum (List.map_congr_left fun i _ => by simp [UnitRec.commanded])

theorem State.uncommandedDischarge_eq (s : State) :
    s.uncommandedDischarge = totalOf s.units fun u => if u.loose then u.estimate else 0 :=
  congrArg List.sum (List.map_congr_left fun i _ => by simp [UnitRec.uncommanded])

end End

/-! ### The credits of an evaluation (R149 to R152) -/

section Credits

theorem State.evaluate_queue (s : State) (d : District) :
    s.evaluate.queues.get d = ((s.queues.get d).takeCredits s.closed s.clock (s.creditsFor d)).queue := by
  rw [s.evaluate_frame.1, s.stageEstimates_eq, State.applyEach_queue, creditsTo_creditsFor s.estimateEvent_credits]

theorem State.holds_evaluate (s : State) (p : PortId) (k : NoticeKind) :
    holds (s.evaluate.notices.get p).set k = (holds (s.notices.get p).set k || s.creditsPost s.creditsFor p k) := by
  rw [s.evaluate_frame.2.1, s.stageEstimates_eq, State.holds_applyEach (quietEvents_estimate s)]
  simp only [creditsTo_creditsFor s.estimateEvent_credits]

theorem State.evaluate_river (s : State) : s.evaluate.notices.river = s.notices.river := by
  rw [s.evaluate_frame.2.1, s.stageEstimates_eq, State.applyEach_river (quietEvents_estimate s)]

theorem QueueEffect.posts_orderFinished (e : QueueEffect) : e.posts .orderFinished = e.finished := by simp [QueueEffect.posts]

theorem QueueEffect.posts_completionOverflow (e : QueueEffect) : e.posts .completionOverflow = e.overflowed := by
  simp [QueueEffect.posts]

/-- Credits post no other kinds. -/
theorem State.creditsPost_other (s : State) (credits : District → List Nat) (p : PortId) {k : NoticeKind}
    (hfinished : k ≠ .orderFinished) (hoverflow : k ≠ .completionOverflow) : s.creditsPost credits p k = false := by
  cases p <;> simp [State.creditsPost, QueueEffect.posts, hfinished, hoverflow]

end Credits

theorem exec_evaluation_due {s : State} (hup : s.resetN = true) (hdue : s.disp.evalDue = true) :
    exec .evaluation s = .next s.evaluate := by
  rw [exec_evaluation, State.whileUp_up _ hup, State.evaluateIfDue, if_pos hdue]

/-- Settles O49. -/
theorem evaluationSetsEstimatesAndSums : Obligations.EvaluationSetsEstimatesAndSums := by
  intro s
  refine ⟨fun hnot => ?_, ?_⟩
  · rw [exec_evaluation]
    refine State.whileUp_nothing fun hup => ?_
    have hdue : s.disp.evalDue = false := by simpa [hup] using hnot
    rw [State.evaluateIfDue, hdue]
    rfl
  intro hup hdue used head litres
  have hlitres : ∀ d, litres d = (s.creditsFor d).sum := fun d => State.creditsFor_sum.symm
  obtain ⟨hrequest, hflag, htime, hcap, hbudget⟩ := s.evaluate_kept
  obtain ⟨hsums, hungry, hrow⟩ := s.evaluate_sums
  have hpower := (s.withUnits s.evaluate.units).committedPower_eq
  have hcommanded := (s.withUnits s.evaluate.units).commandedDischarge_eq
  have huncommanded := (s.withUnits s.evaluate.units).uncommandedDischarge_eq
  have huse := (s.withUnits s.evaluate.units).use_eq
  refine ⟨s.evaluate, exec_evaluation_due hup hdue, fun i => (s.evaluate_estimates i).1,
    fun i => (s.evaluate_estimates i).2, fun d hd => ?_, fun d hd => ?_, ?_, hrequest, hflag, htime, hcap,
    hbudget.trans s.budget_eq, ?_, fun p k hfinished hoverflow => ?_, s.evaluate_river, s.evaluate_frame.2.2⟩
  · rw [hlitres, ← State.creditsFor_eq_nil] at hd
    rw [s.evaluate_queue, hd]
    rfl
  · rw [hlitres] at hd ⊢
    rw [s.evaluate_queue, OrderQueue.takeCredits_pumped ((not_congr State.creditsFor_eq_nil).2 hd)]
  · intro d e n
    exact ⟨s.evaluate_queue d,
      (s.holds_evaluate (.district d) .orderFinished).trans (congrArg _ (QueueEffect.posts_orderFinished _)),
      (s.holds_evaluate (.district d) .completionOverflow).trans (congrArg _ (QueueEffect.posts_completionOverflow _))⟩
  · intro on loose power sum x
    have hx : x = (s.withUnits s.evaluate.units).stationSums := hsums
    clear_value x
    subst hx
    refine ⟨hcommanded, huncommanded, rfl, rfl, hpower, rfl, fun d => ?_⟩
    rw [hrow d]
    exact ⟨huse d, rfl⟩
  · rw [s.holds_evaluate, State.creditsPost_other s _ p hfinished hoverflow, Bool.or_false]

/-! ### Shares of the cap (R130, R131) -/

section Shares

theorem State.demands_get (s : State) (d : District) :
    s.demands.get d =
      if s.river.closure ≠ none ∨ (s.bays.get d).lowSuction = true then none
      else if (s.bays.get d).floatDemand = true then some .emergency else (s.queues.get d).call := by
  rw [State.demands, Tri.get_ofFn]
  unfold State.demand
  have hclosed : (s.closed || (s.bays.get d).lowSuction) = true
      ↔ s.river.closure ≠ none ∨ (s.bays.get d).lowSuction = true := by
    rw [Bool.or_eq_true, State.closed, Option.isSome_iff_ne_none]
  simp only [hclosed]

/-- The effective weight at an urgency of a district of this weight (R131). -/
def weightAt (weight : Nat) : Option Urgency → Nat
  | none => 0
  | some .routine => weight
  | some .high => 2 * weight
  | some .emergency => 4 * weight

theorem State.effectiveWeight_eq (s : State) (demands : Tri (Option Urgency)) (d : District) :
    s.effectiveWeight demands d = weightAt (s.bays.get d).cfg.weight (demands.get d) := by
  unfold State.effectiveWeight
  cases demands.get d with
  | none => rfl
  | some u => cases u <;> simp [weightAt, Urgency.multiplier, Nat.mul_comm]

theorem State.effectiveWeight_none {s : State} {demands : Tri (Option Urgency)} {d : District} (h : demands.get d = none) :
    s.effectiveWeight demands d = 0 := by
  rw [State.effectiveWeight, h]

/-- A share by weight; a district that does not demand has weight 0 and so entitlement 0. -/
theorem State.shares_get (s : State) (demands : Tri (Option Urgency)) (d : District) :
    (s.shares demands).get d =
      { urgency := demands.get d, weight := s.effectiveWeight demands d
        entitlement := s.river.cap * s.effectiveWeight demands d
          / (s.effectiveWeight demands 0 + s.effectiveWeight demands 1 + s.effectiveWeight demands 2) } := by
  have htotal : (districts.map (s.effectiveWeight demands)).sum
      = s.effectiveWeight demands 0 + s.effectiveWeight demands 1 + s.effectiveWeight demands 2 := by
    simp [districts, Nat.add_assoc]
  rw [State.shares, Tri.get_ofFn, htotal]
  cases hd : demands.get d with
  | none => simp [State.effectiveWeight_none hd]
  | some u => rfl

/-- What rounding down leaves of a share of the cap, against a district counted or of weight 0. -/
theorem share_remainder {cap weight total counted : Nat} (htotal : total ≠ 0) (h : counted = 1 ∨ counted = 0 ∧ weight = 0) :
    cap * weight % total + counted ≤ total * counted := by
  rcases h with rfl | ⟨rfl, rfl⟩
  · have := Nat.mod_lt (cap * weight) (Nat.pos_of_ne_zero htotal)
    omega
  · simp

/-- Shares by weight never exceed the cap, and leave less of it than districts share. -/
theorem shares_sum {cap a b c k l m : Nat} (ha : k = 1 ∨ k = 0 ∧ a = 0) (hb : l = 1 ∨ l = 0 ∧ b = 0)
    (hc : m = 1 ∨ m = 0 ∧ c = 0) :
    let total := a + b + c
    let shared := cap * a / total + cap * b / total + cap * c / total
    shared ≤ cap ∧ (total ≠ 0 → cap - shared < k + l + m) := by
  intro total shared
  by_cases htotal : total = 0
  · have hshared : shared = 0 := by simp [shared, htotal]
    exact ⟨by omega, fun h => absurd htotal h⟩
  have hra := share_remainder (cap := cap) htotal ha
  have hrb := share_remainder (cap := cap) htotal hb
  have hrc := share_remainder (cap := cap) htotal hc
  have hda := Nat.div_add_mod (cap * a) total
  have hdb := Nat.div_add_mod (cap * b) total
  have hdc := Nat.div_add_mod (cap * c) total
  have hwhole : total * cap = cap * a + cap * b + cap * c := by
    rw [Nat.mul_comm, ← Nat.mul_add, ← Nat.mul_add]
  have hshared : total * shared
      = total * (cap * a / total) + total * (cap * b / total) + total * (cap * c / total) := by
    rw [← Nat.mul_add, ← Nat.mul_add]
  have hcounted : total * (k + l + m) = total * k + total * l + total * m := by
    rw [Nat.mul_add, Nat.mul_add]
  have hsome : 0 < k + l + m := by omega
  have hle : total * shared ≤ total * cap := by omega
  refine ⟨Nat.le_of_mul_le_mul_left hle (Nat.pos_of_ne_zero htotal), fun _ => ?_⟩
  refine Nat.lt_of_mul_lt_mul_left (a := total) ?_
  rw [Nat.mul_sub]
  omega

end Shares

/-- Settles O50. -/
theorem entitlementsShareTheCap : Obligations.EntitlementsShareTheCap := by
  intro s hup hdue urgency weight total
  have hurgency : ∀ d, s.demands.get d = urgency d := s.demands_get
  have hweight : ∀ d, s.effectiveWeight s.demands d = weight d := fun d =>
    (s.effectiveWeight_eq s.demands d).trans (congrArg (weightAt _) (hurgency d))
  have hcounted : ∀ d, (if (urgency d).isSome = true then 1 else 0) = 1
      ∨ (if (urgency d).isSome = true then 1 else 0) = 0 ∧ weight d = 0 := by
    intro d
    cases hd : urgency d with
    | some u => exact .inl rfl
    | none => exact .inr ⟨rfl, (hweight d).symm.trans (State.effectiveWeight_none ((hurgency d).trans hd))⟩
  have hshare : ∀ d, s.evalShares.get d =
      { urgency := urgency d, weight := weight d, entitlement := s.river.cap * weight d / total } := by
    intro d
    rw [State.evalShares, s.shares_get, hurgency, hweight, hweight, hweight, hweight]
  have hrow : ∀ d, (s.evaluate.disp.table.get d).demanding = (urgency d).isSome
      ∧ (s.evaluate.disp.table.get d).urgency = urgency d ∧ (s.evaluate.disp.table.get d).weight = weight d
      ∧ (s.evaluate.disp.table.get d).entitlement = s.river.cap * weight d / total := by
    intro d
    obtain ⟨-, hungry, htable⟩ := s.evaluate_sums
    rw [htable d, State.tableRow, entitlementOf, hshare d]
    exact ⟨rfl, rfl, rfl, rfl⟩
  refine ⟨s.evaluate, exec_evaluation_due hup hdue, hrow, ?_⟩
  intro e
  have he : ∀ d, e d = s.river.cap * weight d / total := fun d => (hrow d).2.2.2
  have hnumber : (districts.filter fun d => (urgency d).isSome).length
      = (if (urgency 0).isSome = true then 1 else 0) + (if (urgency 1).isSome = true then 1 else 0)
        + if (urgency 2).isSome = true then 1 else 0 := by
    rw [← List.countP_eq_length_filter]
    simp only [districts, List.countP_cons, List.countP_nil]
    omega
  rw [hnumber, he, he, he]
  exact shares_sum (hcounted 0) (hcounted 1) (hcounted 2)

end Sys2Proof.Machine
end

section
/-! PROOFS about the budget and the cap along the stages of an evaluation, and about one unit in stages 7 and 8. -/

namespace Sys2Proof.Machine

/-! ### Budget and cap (R134, R135, R137) -/

section Limits
variable {s : State} {us vs : Oct UnitRec} {w : Tri Row}

theorem State.budgetAdmits_mono {p q : Nat} (h : s.budgetAdmits p) (hle : q ≤ p) : s.budgetAdmits q := by
  unfold State.budgetAdmits at h ⊢
  generalize s.river.profile = profile at h ⊢
  match profile with
  | 0 | 1 | 2 => exact Nat.le_trans hle h
  | 3 => trivial

/-- No unit is in STARTING or RUNNING. -/
def NoneOnDuty (us : Oct UnitRec) : Prop := ∀ i, ¬(us.get i).onDuty

/-- The budget is met, as far as stops can meet it (R134). -/
def State.PowerMet (s : State) (us : Oct UnitRec) : Prop :=
  s.budgetAdmits (s.powerDrawn us - s.powerEnding us) ∨ NoneOnDuty us

/-- The cap is met, as far as stops can meet it (R135). -/
def State.CapMet (s : State) (us : Oct UnitRec) : Prop := dischargeOf us ≤ s.river.cap ∨ NoneOnDuty us

theorem UnitRec.StopsTo.onDuty {now : Second} {u v : UnitRec} (h : UnitRec.StopsTo now u v) (hduty : v.onDuty) : v = u := by
  rcases h with rfl | ⟨why, -, -, rfl⟩
  · rfl
  · exact absurd hduty (by simp)

theorem StopsFrom.noneOnDuty {now : Second} (h : StopsFrom now us vs) (hnone : NoneOnDuty us) : NoneOnDuty vs :=
  fun i hduty => hnone i ((h i).onDuty hduty ▸ hduty)

/-- A stop moves the power of a unit from what it draws for to what is ending. -/
theorem StopsFrom.power {now : Second} (h : StopsFrom now us vs) :
    s.powerDrawn vs ≤ s.powerDrawn us ∧ s.powerEnding us ≤ s.powerEnding vs := by
  refine ⟨totalOf_le fun i => ?_, totalOf_le fun i => ?_⟩
  · rcases h i with heq | ⟨why, hduty, -, heq⟩
    · exact Nat.le_of_eq (by rw [heq])
    · have hdraws : (us.get i).onDuty ∨ (us.get i).state = .stopping ∨ (us.get i).loose := .inl hduty
      rw [heq, if_pos hdraws]
      split
      · exact Nat.le_refl _
      · exact Nat.zero_le _
  · rcases h i with heq | ⟨why, hduty, -, heq⟩
    · exact Nat.le_of_eq (by rw [heq])
    · have hgoing : (us.get i).state ≠ .stopping := by rcases hduty with hst | hst <;> simp [hst]
      rw [if_neg hgoing]
      exact Nat.zero_le _

theorem StopsFrom.discharge {now : Second} (h : StopsFrom now us vs) : dischargeOf vs ≤ dischargeOf us := by
  refine totalOf_le fun i => ?_
  rcases h i with heq | ⟨why, hduty, -, heq⟩
  · exact Nat.le_of_eq (by rw [heq])
  · have hcounts : (us.get i).onDuty ∨ (us.get i).loose := .inl hduty
    rw [heq, if_pos hcounts]
    split
    · exact Nat.le_refl _
    · exact Nat.zero_le _

theorem StopsFrom.powerMet {now : Second} (h : StopsFrom now us vs) (hmet : s.PowerMet us) : s.PowerMet vs := by
  obtain ⟨hdrawn, hending⟩ := h.power (s := s)
  exact hmet.imp (fun hfits => State.budgetAdmits_mono hfits (by omega)) h.noneOnDuty

theorem StopsFrom.capMet {now : Second} (h : StopsFrom now us vs) (hmet : s.CapMet us) : s.CapMet vs :=
  hmet.imp (Nat.le_trans h.discharge) h.noneOnDuty

/-- A half of the shed ends with its limit met or with no unit left to stop. -/
theorem State.ShedRun.met {why : StopReason} {key : UnitRec → Nat} {exceeded : Oct UnitRec → Prop}
    (h : s.ShedRun w why key exceeded us vs) : ¬exceeded vs ∨ NoneOnDuty vs := by
  induction h with
  | done hend => exact hend
  | stop _ _ _ ih => exact ih

theorem State.ShedStage.met (h : s.ShedStage w us vs) : s.PowerMet vs ∧ s.CapMet vs := by
  obtain ⟨ms, hpower, hcap⟩ := h
  have hmet : s.PowerMet ms := hpower.met.imp_left Classical.not_not.1
  exact ⟨(hcap.stops (by simp)).powerMet hmet, hcap.met.imp_left Nat.not_lt.1⟩

/-- The start of a candidate stays within the budget and the free capacity (R137, R140). -/
theorem State.StartStage.met {last : Option Second} (h : s.StartStage w us vs last) (hpower : s.PowerMet us)
    (hcap : s.CapMet us) : s.PowerMet vs ∧ s.CapMet vs := by
  rcases h.cases with ⟨rfl, -⟩ | ⟨d, i, -, ⟨-, hready, hbudget, -, hfree⟩, rfl, -⟩
  · exact ⟨hpower, hcap⟩
  have hidle : (us.get i).state = .idle := hready.1
  have hnew : ((us.get i).startedAt s.clock).onDuty := .inl rfl
  have hpowerless : ¬((us.get i).onDuty ∨ (us.get i).state = .stopping ∨ (us.get i).loose) := by simp [hidle]
  have hdry : ¬((us.get i).onDuty ∨ (us.get i).loose) := by simp [hidle]
  have hdrawn := totalOf_set us i ((us.get i).startedAt s.clock)
    fun u => if u.onDuty ∨ u.state = .stopping ∨ u.loose then s.powerOf u else 0
  have hout := totalOf_set us i ((us.get i).startedAt s.clock) fun u => if u.onDuty ∨ u.loose then u.estimate else 0
  rw [if_neg hpowerless, if_pos (.inl hnew)] at hdrawn
  rw [if_neg hdry, if_pos (.inl hnew)] at hout
  constructor
  · exact .inl (State.budgetAdmits_mono hbudget (Nat.le_trans (Nat.sub_le ..) (Nat.le_of_eq hdrawn)))
  · refine .inl ?_
    unfold State.freeOf at hfree
    have hmore : dischargeOf (us.set i ((us.get i).startedAt s.clock)) = dischargeOf us + (us.get i).estimate := hout
    omega

/-- A unit that a switch takes counts in no sum, before it or after. -/
theorem UnitRec.switchedTo_off (u : UnitRec) (b : District) :
    ¬(u.switchedTo b).onDuty ∧ (u.switchedTo b).state ≠ .stopping ∧ ¬(u.switchedTo b).loose := by
  rcases u.switchedTo_state b with h | h | h <;> simp [h]

theorem State.SwitchStage.sums {ts : Oct UnitRec} (h : s.SwitchStage w ts us vs) :
    s.powerDrawn vs = s.powerDrawn us ∧ s.powerEnding vs = s.powerEnding us ∧ dischargeOf vs = dischargeOf us
      ∧ (NoneOnDuty us → NoneOnDuty vs) := by
  rcases h.cases with rfl | ⟨d, i, hswitchable, rfl⟩
  · exact ⟨rfl, rfl, rfl, id⟩
  obtain ⟨hduty, hstopping, hloose⟩ := UnitRec.switchedTo_off (us.get i) d
  obtain ⟨hduty', hstopping', hloose'⟩ : ¬(us.get i).onDuty ∧ (us.get i).state ≠ .stopping ∧ ¬(us.get i).loose := by
    rcases hswitchable.1 with hst | hst <;> simp [hst]
  have hdrawn := totalOf_set us i ((us.get i).switchedTo d)
    fun u => if u.onDuty ∨ u.state = .stopping ∨ u.loose then s.powerOf u else 0
  have hending := totalOf_set us i ((us.get i).switchedTo d) fun u => if u.state = .stopping then s.powerOf u else 0
  have hout := totalOf_set us i ((us.get i).switchedTo d) fun u => if u.onDuty ∨ u.loose then u.estimate else 0
  simp only [hduty, hstopping, hloose, hduty', hstopping', hloose', or_self, if_false, Nat.add_zero] at hdrawn hending hout
  refine ⟨hdrawn, hending, hout, fun hnone j => ?_⟩
  rw [Oct.get_set]
  split
  · exact hduty
  · exact hnone j

theorem State.SwitchStage.met {ts : Oct UnitRec} (h : s.SwitchStage w ts us vs) (hpower : s.PowerMet us)
    (hcap : s.CapMet us) : s.PowerMet vs ∧ s.CapMet vs := by
  obtain ⟨hdrawn, hending, hout, hnone⟩ := h.sums
  unfold State.PowerMet State.CapMet at *
  rw [hdrawn, hending, hout]
  exact ⟨hpower.imp_right hnone, hcap.imp_right hnone⟩

end Limits

/-! ### One unit through stages 7 and 8 -/

section One
variable {s : State} {us vs ts : Oct UnitRec} {w : Tri Row} {k : UnitId}

/-- Unit `k` alone was started. -/
structure StartedOne (s : State) (w : Tri Row) (us vs : Oct UnitRec) (last : Option Second) (k : UnitId) : Prop where
  opened : s.SlotIsOpen
  candidate : ∃ d, s.CandidateFor w us d k
  record : vs.get k = (us.get k).startedAt s.clock
  last : last = some s.clock
  others : ∀ j, j ≠ k → vs.get j = us.get j

theorem State.StartStage.one {last : Option Second} (h : s.StartStage w us vs last) (k : UnitId) :
    vs.get k = us.get k ∨ StartedOne s w us vs last k := by
  rcases h.cases with ⟨rfl, -⟩ | ⟨d, i, hopen, hcandidate, rfl, hlast⟩
  · exact .inl rfl
  · by_cases hk : k = i
    · subst hk
      exact .inr ⟨hopen, ⟨d, hcandidate⟩, by rw [Oct.get_set, if_pos rfl], hlast, fun j hj => by rw [Oct.get_set, if_neg hj]⟩
    · exact .inl (by rw [Oct.get_set, if_neg hk])

/-- Unit `k` alone was switched to bay `d`. -/
structure SwitchedOne (s : State) (w : Tri Row) (us vs : Oct UnitRec) (k : UnitId) (d : District) : Prop where
  switchable : s.SwitchableTo w us d k
  record : vs.get k = (us.get k).switchedTo d
  others : ∀ j, j ≠ k → vs.get j = us.get j

theorem State.SwitchStage.one (h : s.SwitchStage w ts us vs) (k : UnitId) :
    vs.get k = us.get k ∨ ∃ d, SwitchedOne s w us vs k d := by
  rcases h.cases with rfl | ⟨d, i, hswitchable, rfl⟩
  · exact .inl rfl
  · by_cases hk : k = i
    · subst hk
      exact .inr ⟨d, hswitchable, by rw [Oct.get_set, if_pos rfl], fun j hj => by rw [Oct.get_set, if_neg hj]⟩
    · exact .inl (by rw [Oct.get_set, if_neg hk])

/-- A unit in STARTING or RUNNING after the switch was not switched. -/
theorem State.SwitchStage.onDuty (h : s.SwitchStage w ts us vs) (hduty : (vs.get k).onDuty) : vs.get k = us.get k := by
  rcases h.one k with heq | ⟨d, hone⟩
  · exact heq
  · rw [hone.record] at hduty
    exact absurd hduty (UnitRec.switchedTo_off _ d).1

/-- A unit that is neither IDLE nor RESTING keeps its record through stages 7 and 8. -/
theorem stages_busy {last : Option Second} (hstart : s.StartStage w ts us last) (hswitch : s.SwitchStage w ts us vs)
    (hidle : (ts.get k).state ≠ .idle) (hresting : (ts.get k).state ≠ .resting) : vs.get k = ts.get k := by
  have hu : us.get k = ts.get k := by
    rcases hstart.one k with heq | hone
    · exact heq
    · obtain ⟨d, -, hready, -⟩ := hone.candidate
      exact absurd hready.1 hidle
  rcases hswitch.one k with heq | ⟨d, hone⟩
  · exact heq.trans hu
  · have hstate := hone.switchable.1
    rw [hu] at hstate
    exact absurd hstate (not_or.2 ⟨hidle, hresting⟩)

end One

end Sys2Proof.Machine
end

section
/-! PROOFS about the units that an evaluation leaves: settles O51. -/

namespace Sys2Proof.Machine

/-! ### Units fit to stay on duty (R129, R137) -/

section Fit
variable {s : State} {us vs ts : Oct UnitRec} {w : Tri Row}

/-- No unit in STARTING or RUNNING is below its q_min or draws from a bay in LOW_SUCTION. -/
def State.FitForDuty (s : State) (us : Oct UnitRec) : Prop :=
  ∀ i, (us.get i).onDuty →
    s.leastOf (us.get i) ≤ (us.get i).estimate ∧ (s.bays.get (us.get i).commandedBay).lowSuction = false

/-- Districts demand with closure not in force and LOW_SUCTION clear (R130). -/
def State.DemandsOpen (s : State) (w : Tri Row) : Prop :=
  ∀ d, (w.get d).demanding = true → s.river.closure = none ∧ (s.bays.get d).lowSuction = false

theorem State.evaluate_demandsOpen (s : State) : s.DemandsOpen s.evaluate.disp.table := by
  intro d hd
  rw [(s.evaluate_spec.2.1 d).1] at hd
  exact State.evalShares_demanding hd

theorem State.ProtectiveStops.fit (h : s.ProtectiveStops us vs) : s.FitForDuty vs := by
  intro i hduty
  have hstands : vs.get i = us.get i := (h.stops i).onDuty hduty
  have hi := h i
  dsimp only at hi
  rw [hstands] at hi hduty ⊢
  have hgoing : ∀ why, us.get i ≠ (us.get i).stoppedBy s.clock why := by
    intro why heq
    rw [heq] at hduty
    exact absurd hduty (by simp)
  by_cases hlow : (us.get i).estimate < s.leastOf (us.get i)
  · rw [if_pos ⟨hduty, hlow⟩] at hi
    exact absurd hi (hgoing _)
  · rw [if_neg fun hc => hlow hc.2] at hi
    refine ⟨Nat.not_lt.1 hlow, Bool.eq_false_iff.2 fun hdry => ?_⟩
    rw [if_pos ⟨hduty, hdry⟩] at hi
    exact absurd hi (hgoing _)

theorem StopsFrom.fit {now : Second} (h : StopsFrom now us vs) (hfit : s.FitForDuty us) : s.FitForDuty vs := by
  intro i hduty
  have hstands : vs.get i = us.get i := (h i).onDuty hduty
  rw [hstands] at hduty ⊢
  exact hfit i hduty

theorem State.StartStage.fit {last : Option Second} (h : s.StartStage w us vs last) (hopen : s.DemandsOpen w)
    (hfit : s.FitForDuty us) : s.FitForDuty vs := by
  intro i hduty
  rcases h.one i with heq | hone
  · rw [heq] at hduty ⊢
    exact hfit i hduty
  · obtain ⟨d, hdemand, ⟨-, -, hbay, -, -, hflow⟩, -⟩ := hone.candidate
    rw [hone.record]
    refine ⟨hflow, ?_⟩
    change (s.bays.get (us.get i).commandedBay).lowSuction = false
    rw [hbay]
    exact (hopen d hdemand).2

theorem State.SwitchStage.fit (h : s.SwitchStage w ts us vs) (hfit : s.FitForDuty us) : s.FitForDuty vs := by
  intro i hduty
  have hstands := h.onDuty hduty
  rw [hstands] at hduty ⊢
  exact hfit i hduty

/-- The stages of an evaluation as stops, one start and one switch. -/
theorem State.evaluate_chain (s : State) :
    ∃ u1 u6 u7, s.EstimatesGiven u1 ∧ StopsFrom s.clock u1 u6 ∧ s.FitForDuty u6 ∧ s.PowerMet u6 ∧ s.CapMet u6
      ∧ s.StartStage s.evaluate.disp.table u6 u7 s.evaluate.disp.lastStart
      ∧ s.SwitchStage s.evaluate.disp.table u6 u7 s.evaluate.units := by
  obtain ⟨u1, u2, u4, u5, u6, u7, hgiven, hprotective, hshed, hdemand, hrebalance, hstart, hswitch⟩ := s.evaluate_spec.1
  have hlater : StopsFrom s.clock u4 u6 := hdemand.stops.trans hrebalance.stops
  obtain ⟨hpower, hcap⟩ := hshed.met
  exact ⟨u1, u6, u7, hgiven, (hprotective.stops.trans hshed.stops).trans hlater,
    (hshed.stops.trans hlater).fit hprotective.fit, hlater.powerMet hpower, hlater.capMet hcap, hstart, hswitch⟩

end Fit

/-! ### The limits at the end -/

section End
variable {s : State}

theorem State.evaluate_fit (s : State) : s.FitForDuty s.evaluate.units := by
  obtain ⟨u1, u6, u7, -, -, hfit, -, -, hstart, hswitch⟩ := s.evaluate_chain
  exact hswitch.fit (hstart.fit s.evaluate_demandsOpen hfit)

theorem State.evaluate_met (s : State) : s.PowerMet s.evaluate.units ∧ s.CapMet s.evaluate.units := by
  obtain ⟨u1, u6, u7, -, -, -, hpower, hcap, hstart, hswitch⟩ := s.evaluate_chain
  obtain ⟨hpower, hcap⟩ := hstart.met hpower hcap
  exact hswitch.met hpower hcap

theorem NoneOnDuty.states {us : Oct UnitRec} (h : NoneOnDuty us) (i : UnitId) :
    (us.get i).state ≠ .starting ∧ (us.get i).state ≠ .running :=
  not_or.1 (h i)

/-- What a claim says of a unit that was started in the evaluation taken at `s`, which left the part `t`. -/
structure StartedIn (s t : State) (i : UnitId) : Prop where
  idle : (s.units.get i).state = .idle
  avail : (s.units.get i).avail = true
  selector : (s.units.get i).selPos.val = (s.units.get i).commandedBay.val
  room : (s.units.get i).history.length < (s.units.get i).cfg.maxStarts
  closure : s.river.closure = none
  history : (t.units.get i).history = (s.units.get i).history ++ [s.clock]
  last : t.disp.lastStart = some s.clock
  slot : s.SlotIsOpen

/-- A unit is found in STARTING newly. -/
def StartsIn (s t : State) (i : UnitId) : Prop :=
  (t.units.get i).state = .starting ∧ (s.units.get i).state ≠ .starting

/-- A unit's record before stage 7, unless a stop stands in it, is the one that the evaluation found with a new estimate. -/
theorem StopsFrom.onlyStops {now : Second} {us vs : Oct UnitRec} (h : StopsFrom now us vs) {i : UnitId}
    (hgoing : (vs.get i).state ≠ .stopping) : vs.get i = us.get i := by
  rcases h i with heq | ⟨why, -, -, heq⟩
  · exact heq
  · rw [heq] at hgoing
    exact absurd rfl hgoing

/-- A newly STARTING unit is the one of stage 7 (R140). -/
theorem State.evaluate_starts {i : UnitId} (h : StartsIn s s.evaluate i) :
    StartedIn s s.evaluate i ∧ ∀ j, j ≠ i → ¬StartsIn s s.evaluate j := by
  obtain ⟨u1, u6, u7, hgiven, hstops, -, -, -, hstart, hswitch⟩ := s.evaluate_chain
  have hend : ∀ j, StartsIn s s.evaluate j → s.evaluate.units.get j = u7.get j := fun j hj => hswitch.onDuty (.inl hj.1)
  have hnew : ∀ j, StartsIn s s.evaluate j → u7.get j ≠ u6.get j := by
    intro j hj heq
    obtain ⟨hnow, hbefore⟩ := hj
    rw [hend j ⟨hnow, hbefore⟩, heq] at hnow
    rw [hstops.onlyStops (by simp [hnow]), hgiven j] at hnow
    exact hbefore hnow
  have hone := (hstart.one i).resolve_left (hnew i h)
  obtain ⟨d, hdemand, ⟨hidle, havail, hbay, hselector, hroom, -⟩, -⟩ := hone.candidate
  have hfound : u6.get i = u1.get i := hstops.onlyStops (by simp [hidle])
  have hhistory : (s.evaluate.units.get i).history = (u6.get i).history ++ [s.clock] := by
    rw [hend i h, hone.record]
    rfl
  rw [← hbay] at hselector
  rw [hfound, hgiven i] at hidle havail hselector hroom hhistory
  exact ⟨⟨hidle, havail, hselector, hroom, (s.evaluate_demandsOpen d hdemand).1, hhistory, hone.last, hone.opened⟩,
    fun j hj hstarts => hnew j hstarts (hone.others j hj)⟩

/-- A held RUNNING unit stays, or is stopped for another reason than NO_DEMAND and REBALANCE (R136, R139). -/
theorem State.evaluate_held (s : State) (i : UnitId) (hrun : (s.units.get i).state = .running)
    (hheld : (s.units.get i).runHold.left ≠ 0) :
    (s.evaluate.units.get i).state = .running
      ∨ (s.evaluate.units.get i).state = .stopping ∧ (s.evaluate.units.get i).stopReason ≠ some .noDemand
          ∧ (s.evaluate.units.get i).stopReason ≠ some .rebalance := by
  obtain ⟨u1, u6, u7, hgiven, hstops, -, -, -, hstart, hswitch⟩ := s.evaluate_chain
  have hrun1 : (u1.get i).state = .running := by
    rw [hgiven i]
    exact hrun
  have hheld1 : (u1.get i).runHold.left ≠ 0 := by
    rw [hgiven i]
    exact hheld
  rcases hstops i with heq | ⟨why, -, hwhy, heq⟩
  · have hkeeps := stages_busy (k := i) hstart hswitch (by simp [heq, hrun1]) (by simp [heq, hrun1])
    rw [hkeeps, heq]
    exact .inl hrun1
  · have hkeeps := stages_busy (k := i) hstart hswitch (by simp [heq, UnitRec.stoppedBy]) (by simp [heq, UnitRec.stoppedBy])
    have hother : ¬(why = .noDemand ∨ why = .rebalance) := by
      intro hc
      rcases hwhy hc with hst | ⟨-, hzero⟩
      · rw [hrun1] at hst
        cases hst
      · exact hheld1 hzero
    rw [hkeeps, heq]
    exact .inr ⟨rfl, fun h => hother (.inl (Option.some.inj h)), fun h => hother (.inr (Option.some.inj h))⟩

/-- A unit's commanded bay, its AVAIL line and its configurations. -/
def UnitRec.posting (u : UnitRec) : District × Bool × UnitConfig × Option UnitConfig :=
  (u.commandedBay, u.avail, u.cfg, u.pendingCfg)

theorem StopsFrom.posting {now : Second} {us vs : Oct UnitRec} (h : StopsFrom now us vs) (i : UnitId) :
    (vs.get i).posting = (us.get i).posting := by
  rcases h i with heq | ⟨why, -, -, heq⟩
  · rw [heq]
  · rw [heq]
    rfl

theorem State.StartStage.posting {us vs : Oct UnitRec} {w : Tri Row} {last : Option Second}
    (h : s.StartStage w us vs last) (i : UnitId) : (vs.get i).posting = (us.get i).posting := by
  rcases h.one i with heq | hone
  · rw [heq]
  · rw [hone.record]
    rfl

theorem UnitRec.switchedTo_bay (u : UnitRec) (b : District) : (u.switchedTo b).commandedBay = b := by
  unfold UnitRec.switchedTo
  dsimp only
  split
  · rfl
  · split <;> rfl

/-- A unit with another commanded bay is the one of stage 8 (R142, R143). -/
theorem State.evaluate_moves {i : UnitId} (h : (s.evaluate.units.get i).commandedBay ≠ (s.units.get i).commandedBay) :
    ((s.units.get i).avail = true ∧ (s.units.get i).pendingCfg = none
        ∧ (s.units.get i).cfg.reach.get (s.evaluate.units.get i).commandedBay = true)
      ∧ ∀ j, j ≠ i → (s.evaluate.units.get j).commandedBay = (s.units.get j).commandedBay := by
  obtain ⟨u1, u6, u7, hgiven, hstops, -, -, -, hstart, hswitch⟩ := s.evaluate_chain
  have hposting : ∀ j, (u7.get j).commandedBay = (s.units.get j).commandedBay
      ∧ (u7.get j).avail = (s.units.get j).avail ∧ (u7.get j).cfg = (s.units.get j).cfg
      ∧ (u7.get j).pendingCfg = (s.units.get j).pendingCfg := by
    intro j
    have hsame : (u7.get j).posting = (s.units.get j).posting := by
      rw [hstart.posting j, hstops.posting j, hgiven j]
      rfl
    simpa only [UnitRec.posting, Prod.mk.injEq] using hsame
  obtain ⟨hbay, havail, hcfg, hpending⟩ := hposting i
  rcases hswitch.one i with heq | ⟨d, hone⟩
  · rw [heq, hbay] at h
    exact absurd rfl h
  · obtain ⟨-, hline, hreach, -, hnone, -⟩ := hone.switchable
    rw [havail] at hline
    rw [hcfg] at hreach
    rw [hpending] at hnone
    refine ⟨⟨hline, hnone, ?_⟩, fun j hj => ?_⟩
    · rw [hone.record, UnitRec.switchedTo_bay]
      exact hreach
    · rw [hone.others j hj]
      exact (hposting j).1

end End

/-- Settles O51. -/
theorem evaluationKeepsTheLimits : Obligations.EvaluationKeepsTheLimits := by
  intro s hup hdue
  obtain ⟨hpower, hcap⟩ := s.evaluate_met
  refine ⟨s.evaluate, exec_evaluation_due hup hdue, s.evaluate_spec.1, ?_, s.evaluate_fit, fun i j => ?_, fun i j => ?_,
    s.evaluate_held⟩
  · intro idleStation x
    have hx : x = (s.withUnits s.evaluate.units).stationSums := s.evaluate_sums.1
    have hdrawn : x.committedPower = s.powerDrawn s.evaluate.units := by
      rw [hx]
      exact (s.withUnits s.evaluate.units).committedPower_eq
    have hending : x.rundownPower = s.powerEnding s.evaluate.units := by
      rw [hx]
      rfl
    have hout : x.commanded + x.uncommanded = dischargeOf s.evaluate.units := by
      rw [hx]
      exact (s.withUnits s.evaluate.units).discharge_eq
    rw [hdrawn, hending, hout]
    refine ⟨hpower.imp (fun hfits b hb => ?_) NoneOnDuty.states, hcap.imp_right NoneOnDuty.states⟩
    rw [s.evaluate_kept.2.2.2.2] at hb
    have hwithin := (State.withinBudget_iff s _).2 hfits
    rw [hb] at hwithin
    exact of_decide_eq_true hwithin
  · intro starts
    refine ⟨fun (hi : StartsIn s s.evaluate i) hj => ?_, fun (hi : StartsIn s s.evaluate i) => ?_⟩
    · refine Classical.byContradiction fun hne => ?_
      exact (State.evaluate_starts hi).2 j (Ne.symm hne) hj
    · obtain ⟨hidle, havail, hselector, hroom, hclosure, hhistory, hlast, hslot⟩ := (State.evaluate_starts hi).1
      exact ⟨hidle, havail, hselector, hroom, hclosure, hhistory, hlast, hslot⟩
  · intro moved
    refine ⟨fun hi hj => ?_, fun hi => (State.evaluate_moves hi).1⟩
    refine Classical.byContradiction fun hne => ?_
    exact hj ((State.evaluate_moves hi).2 j (Ne.symm hne))

end Sys2Proof.Machine
end
